-- ==== Sys2Proof/Word.lean ====
section
/-! DEFINITION. The unsigned words of the block (00_scope.md R7, R8, R10; no quantity is signed). -/

namespace Sys2Proof

/-- A byte of a byte vector, or an 8-bit field (R10). -/
abbrev Byte := BitVec 8

/-- A 16-bit sensor, voltage or temperature field (R7). -/
abbrev Half := BitVec 16

/-- A 32-bit identifier or a time in milliseconds (R7). -/
abbrev Word := BitVec 32

end Sys2Proof
end

