-- ==== Sys2Proof/Machine/Constants.lean ====
section
/-! DEFINITION. The constants that 00_scope.md R6 fixes, and the bus tags of 30_encoding.md R77. -/

namespace Sys2Proof.Machine

/-- Plausibility gate: both percentages exceed 8 (R6, R152). -/
abbrev gatePct : Nat := 8

/-- Deadband floor: below 10 is floored to 0 (R6, R152). -/
abbrev deadbandFloor : Nat := 10

/-- Saturation: above 90 is ceiled to 100 (R6, R152). -/
abbrev saturationCeiling : Nat := 90

/-- Full torque. -/
abbrev fullTorque : Nat := 100

/-- The latch sets above 25 (R6, R153). -/
abbrev latchSetTorque : Nat := 25

/-- The latch clears below 5 (R6, R153). -/
abbrev latchClearTorque : Nat := 5

/-- The R2D delay in milliseconds (R6, R185). -/
abbrev r2dDelayMs : Nat := 2000

/-- The largest DLC in range (R76, R131). -/
abbrev maxDlc : Nat := 8

/-- Bus tag of the inverter bus (R77). -/
abbrev busInverter : Byte := 1

/-- Bus tag of the accumulator bus (R77). -/
abbrev busAccumulator : Byte := 2

/-- Bus tag of the dashboard bus (R77). -/
abbrev busDashboard : Byte := 3

end Sys2Proof.Machine
end

