-- ==== Sys2Proof/Config.lean ====
section
/-! DEFINITION. The implementation parameters of 00_scope.md R5: fixed for the life of the machine, no
state, written by no command (10_state.md R33). Log entry 1. -/

namespace Sys2Proof

/-- The parameters of R5. Their well-formedness (calibrations at most 100, byte index at most 7, DLC at
most 8) is carried by the types, so that no ill-formed configuration exists. -/
structure Config where
  /-- `P_BRAKE_THR`: the brake threshold of the latch (R153) and of WAIT_START_BRAKE (R184). OPEN, D17. -/
  brakeThr    : Half
  /-- `P_CAL1`: calibration of accelerator sensor 1, raw reading to percentage. OPEN, D14. -/
  cal1        : Half → Fin 101
  /-- `P_CAL2`: calibration of accelerator sensor 2. OPEN, D14. -/
  cal2        : Half → Fin 101
  /-- `P_INV_CMD_ID`: identifier of the inverter command frame. OPEN, D20. -/
  invCmdId    : Word
  /-- `P_INV_CMD_BYTE`: the payload byte that carries the torque. OPEN, D20. -/
  invCmdByte  : Fin 8
  /-- `P_INV_CMD_DLC`: DLC of the inverter command frame. OPEN, D20. -/
  invCmdDlc   : Fin 9
  /-- `P_INV_CMD_EXT`: extended-id flag of the inverter command frame. OPEN, D20. -/
  invCmdExt   : Bool
  /-- `P_DLC_MIN_CHECK`: whether dispatch also ignores a DLC shorter than its field. OPEN, D9. -/
  dlcMinCheck : Bool
deriving Inhabited

/-- DESIGN CHOICE (log entry 1, safe): the configuration of this machine has no body, so nothing can be
proved of it but what every well-formed configuration of R5 satisfies. -/
opaque Config.installed : Config

end Sys2Proof
end

