-- ==== Sys2Proof/Syntax.lean ====
section
/-! DEFINITION. The values the command port carries (30_encoding.md R72, R76, R78, R87), the dispatch map's
rows (R81) and the instructions: one constructor per row of spec/opcode_table.json. -/

namespace Sys2Proof

/-- The 8-byte CAN payload: all 8 bytes are present whatever the DLC (R76). -/
abbrev Payload := Vector Byte 8

/-- A CanQueueItem (item), 16 bytes (R78). -/
abbrev CanQueueItem := Vector Byte 16

/-- The telemetry status frame, 32 bytes (R87). -/
abbrev TlmFrame := Vector Byte 32

/-- The logical CAN frame (R76): every value of the type is representable, out-of-range DLC values and
unknown bus tags included (R77, D5). -/
structure CanFrame where
  bus  : Byte
  id   : Word
  dlc  : Byte
  ext  : Bool
  data : Payload
deriving DecidableEq, Repr

/-- A CanFrame less its identifier: the operand of a DISPATCH_ID row, whose row fixes the identifier. -/
structure RxFrame where
  bus  : Byte
  dlc  : Byte
  ext  : Bool
  data : Payload
deriving DecidableEq, Repr

/-- The frame of a DISPATCH_ID row, its identifier put back. -/
def RxFrame.toFrame (g : RxFrame) (id : Word) : CanFrame :=
  { bus := g.bus, id := id, dlc := g.dlc, ext := g.ext, data := g.data }

/-- A frame less its identifier. -/
def CanFrame.toRx (f : CanFrame) : RxFrame :=
  { bus := f.bus, dlc := f.dlc, ext := f.ext, data := f.data }

/-- The rows of the RX dispatch map (R81), each named by the REC field it writes. -/
inductive DispatchRow
  | prechargeAck
  | dcBusV
  | acc1
  | acc2
  | brake
  | minCellV
deriving DecidableEq, Repr

/-- The operand ports of the block (R72). -/
structure Ports where
  op    : BitVec 4
  bit   : BitVec 1
  now   : BitVec 32
  item  : BitVec 128
  frame : BitVec 113
deriving DecidableEq, Repr

/-- What the host presents between two steps of the block: a command on the operand ports, or the
hardware reset input (70_reset_and_hazards.md R250). -/
inductive PortInput
  | command (p : Ports)
  | reset
deriving DecidableEq, Repr

/-- The instructions, one constructor per row of the opcode table. A DISPATCH whose identifier has a row
of its own in the dispatch map is that row's instruction (log entry 7). -/
inductive Instr
  /-- op 0x1, R100 -/
  | init
  /-- op 0x2, R101 -/
  | snapshot
  /-- op 0x3, R104 -/
  | setStart (b : Bool)
  /-- op 0x4, R120 -/
  | pack (f : CanFrame)
  /-- op 0x5, R121 -/
  | unpack (item : CanQueueItem)
  /-- op 0x6, R123 -/
  | dispatch (f : CanFrame)
  /-- op 0x7, R133 -/
  | rxitem (item : CanQueueItem)
  /-- op 0x8, R160 -/
  | computeTorque
  /-- op 0x9, R180 -/
  | step (nowMs : Word)
  /-- op 0xA, R210 -/
  | tlmBuild
  /-- op 0x0, reserved, R88 -/
  | reserved0
  /-- op 0xB, reserved, R88 -/
  | reservedB
  /-- op 0xC to 0xF, reserved, R88: match 0xC under mask 0xC, the two low bits of op free -/
  | reservedC (low : BitVec 2)
  /-- op 0x6 with identifier 0x20, R125 -/
  | rxPrechargeAck (g : RxFrame)
  /-- op 0x6 with identifier 0x100, R126 -/
  | rxDcBusV (g : RxFrame)
  /-- op 0x6 with identifier 0x101, R127 -/
  | rxAcc1 (g : RxFrame)
  /-- op 0x6 with identifier 0x102, R128 -/
  | rxAcc2 (g : RxFrame)
  /-- op 0x6 with identifier 0x103, R129 -/
  | rxBrake (g : RxFrame)
  /-- op 0x6 with identifier 0x12C, R130 -/
  | rxMinCellV (g : RxFrame)
deriving DecidableEq, Repr

/-- One line of the command syntax (R91): a comment, or a command written as a mnemonic and an operand. -/
inductive AsmLine
  | comment
  | command (i : Instr)
deriving DecidableEq, Repr

end Sys2Proof
end

