-- ==== Sys2Proof/Machine/DispatchMap.lean ====
section
/-! DEFINITION. The RX dispatch map (30_encoding.md R81; 42_codec_dispatch.md R123 to R130): which identifier
selects which REC field, and how many payload bytes the field reads. -/

namespace Sys2Proof

/-- The identifier that selects a row (R81). -/
def DispatchRow.id : DispatchRow → Word
  | .prechargeAck => 0x00000020#32
  | .dcBusV       => 0x00000100#32
  | .acc1         => 0x00000101#32
  | .acc2         => 0x00000102#32
  | .brake        => 0x00000103#32
  | .minCellV     => 0x0000012C#32

/-- The payload bytes a row reads: `need` of R123 and R132. -/
def DispatchRow.need : DispatchRow → Nat
  | .prechargeAck => 1
  | .dcBusV       => 2
  | .acc1         => 2
  | .acc2         => 2
  | .brake        => 2
  | .minCellV     => 2

/-- The row an identifier selects, all 32 bits compared (R81, R124); none for any other id (R131). -/
def DispatchRow.ofId (id : Word) : Option DispatchRow :=
  if id = DispatchRow.prechargeAck.id then some .prechargeAck
  else if id = DispatchRow.dcBusV.id then some .dcBusV
  else if id = DispatchRow.acc1.id then some .acc1
  else if id = DispatchRow.acc2.id then some .acc2
  else if id = DispatchRow.brake.id then some .brake
  else if id = DispatchRow.minCellV.id then some .minCellV
  else none

/-- The instruction of a dispatch row. -/
def DispatchRow.instr (row : DispatchRow) (g : RxFrame) : Instr :=
  match row with
  | .prechargeAck => .rxPrechargeAck g
  | .dcBusV       => .rxDcBusV g
  | .acc1         => .rxAcc1 g
  | .acc2         => .rxAcc2 g
  | .brake        => .rxBrake g
  | .minCellV     => .rxMinCellV g

end Sys2Proof
end

