-- ==== Sys2Proof/WellFormed.lean ====
section
/-! DEFINITION. Well-formed instructions. Every operand value of the right width is legal (30_encoding.md
R75); the only check is that each command has ONE term: a frame whose identifier has a row of its own in the
dispatch map (R81) is written with that row's constructor (log entry 7). -/

namespace Sys2Proof

/-- The identifier has no row in the dispatch map, so that `dispatch` is its instruction. -/
def CanFrame.unmapped (f : CanFrame) : Bool := (DispatchRow.ofId f.id).isNone

/-- Well-formedness of an instruction. -/
def Instr.wf : Instr → Bool
  | .init             => true
  | .snapshot         => true
  | .setStart _       => true
  | .pack _           => true
  | .unpack _         => true
  | .dispatch f       => f.unmapped
  | .rxitem _         => true
  | .computeTorque    => true
  | .step _           => true
  | .tlmBuild         => true
  | .reserved0        => true
  | .reservedB        => true
  | .reservedC _      => true
  | .rxPrechargeAck _ => true
  | .rxDcBusV _       => true
  | .rxAcc1 _         => true
  | .rxAcc2 _         => true
  | .rxBrake _        => true
  | .rxMinCellV _     => true

end Sys2Proof
end

