-- ==== Sys2Proof/Decode.lean ====
section
/-! DEFINITION. The bit formats of the ports (30_encoding.md R74, R79, R80), the decoder, total on every
value of the operand ports (R75), and after it the encoder, written from the same tables. -/

namespace Sys2Proof

/-! ### Lanes and byte vectors (R74) -/

/-- Lane `k` of width `w`: bits [w*k+w-1 : w*k]. -/
def laneOf {n : Nat} (w : Nat) (x : BitVec n) (k : Nat) : BitVec w :=
  x.extractLsb' (w * k) w

/-- The lanes of a vector as one number, lane 0 least significant. -/
def lanesToNat {w : Nat} (l : List (BitVec w)) : Nat :=
  l.foldr (fun b rest => b.toNat + 2 ^ w * rest) 0

/-- A vector of lanes on a port: lane `k` at bits [w*k+w-1 : w*k]. -/
def lanesToBits {w n : Nat} (v : Vector (BitVec w) n) : BitVec (w * n) :=
  BitVec.ofNat (w * n) (lanesToNat v.toList)

/-- A byte vector on a port: byte `k` at bits [8k+7 : 8k] (R74). -/
def bytesToBits {n : Nat} (v : Vector Byte n) : BitVec (8 * n) := lanesToBits v

/-- The byte vector a port carries (R74). -/
def bytesOfBits {n : Nat} (x : BitVec (8 * n)) : Vector Byte n :=
  Vector.ofFn fun k => laneOf 8 x k.val

/-! ### Format ITEM (R79) and format FRAME (R80) -/

/-- The 16 bytes on `item_in` or `item_out` (R79). -/
def itemOfBits (x : BitVec 128) : CanQueueItem := bytesOfBits (n := 16) x

/-- An item on `item_in` or `item_out` (R79). -/
def itemToBits (it : CanQueueItem) : BitVec 128 := bytesToBits it

/-- The CanFrame on `frame_in` or `frame_out` (R80). -/
def frameOfBits (x : BitVec 113) : CanFrame :=
  { bus  := x.extractLsb' 0 8
    id   := x.extractLsb' 8 32
    dlc  := x.extractLsb' 40 8
    ext  := x.getLsbD 48
    data := Vector.ofFn fun k => x.extractLsb' (49 + 8 * k.val) 8 }

/-- A CanFrame on `frame_in` or `frame_out` (R80): data, ext, dlc, id, bus from the top down. -/
def frameToBits (f : CanFrame) : BitVec 113 :=
  (bytesToBits f.data ++ BitVec.ofBool f.ext ++ f.dlc ++ f.id ++ f.bus : BitVec (8 * 8 + 1 + 8 + 32 + 8))

/-! ### The decoder (R70, R75) -/

/-- DISPATCH(f): the identifier's row where the dispatch map has one (R81), else `dispatch` itself. -/
def decodeDispatch (f : CanFrame) : Instr :=
  match DispatchRow.ofId f.id with
  | some row => row.instr f.toRx
  | none     => .dispatch f

/-- The command on the operand ports (R75). Total on all 2^4 op values; a port the op does not use is
not read (R72). -/
def decode (p : Ports) : Instr :=
  match p.op with
  | 0x0#4 => .reserved0
  | 0x1#4 => .init
  | 0x2#4 => .snapshot
  | 0x3#4 => .setStart (p.bit.getLsbD 0)
  | 0x4#4 => .pack (frameOfBits p.frame)
  | 0x5#4 => .unpack (itemOfBits p.item)
  | 0x6#4 => decodeDispatch (frameOfBits p.frame)
  | 0x7#4 => .rxitem (itemOfBits p.item)
  | 0x8#4 => .computeTorque
  | 0x9#4 => .step p.now
  | 0xA#4 => .tlmBuild
  | 0xB#4 => .reservedB
  | _     => .reservedC (p.op.extractLsb' 0 2)

/-! ### The encoder -/

/-- Ports that carry an op and no operand: every operand port 0. -/
def Ports.ofOp (op : BitVec 4) : Ports := { op := op, bit := 0, now := 0, item := 0, frame := 0 }

/-- The DISPATCH command of a row's frame. -/
def encodeRow (row : DispatchRow) (g : RxFrame) : Ports :=
  { Ports.ofOp 0x6#4 with frame := frameToBits (g.toFrame row.id) }

/-- The operand ports of an instruction, every port it does not use at 0 (R70, R72). -/
def encode : Instr → Ports
  | .init             => Ports.ofOp 0x1#4
  | .snapshot         => Ports.ofOp 0x2#4
  | .setStart b       => { Ports.ofOp 0x3#4 with bit := BitVec.ofBool b }
  | .pack f           => { Ports.ofOp 0x4#4 with frame := frameToBits f }
  | .unpack it        => { Ports.ofOp 0x5#4 with item := itemToBits it }
  | .dispatch f       => { Ports.ofOp 0x6#4 with frame := frameToBits f }
  | .rxitem it        => { Ports.ofOp 0x7#4 with item := itemToBits it }
  | .computeTorque    => Ports.ofOp 0x8#4
  | .step now         => { Ports.ofOp 0x9#4 with now := now }
  | .tlmBuild         => Ports.ofOp 0xA#4
  | .reserved0        => Ports.ofOp 0x0#4
  | .reservedB        => Ports.ofOp 0xB#4
  | .reservedC low    => Ports.ofOp (0x3#2 ++ low)
  | .rxPrechargeAck g => encodeRow .prechargeAck g
  | .rxDcBusV g       => encodeRow .dcBusV g
  | .rxAcc1 g         => encodeRow .acc1 g
  | .rxAcc2 g         => encodeRow .acc2 g
  | .rxBrake g        => encodeRow .brake g
  | .rxMinCellV g     => encodeRow .minCellV g

/-- The ports with every port that the op does not use set to 0 (the last column of R72's table). -/
def Ports.used (p : Ports) : Ports :=
  match p.op with
  | 0x3#4 => { Ports.ofOp p.op with bit := p.bit }
  | 0x4#4 => { Ports.ofOp p.op with frame := p.frame }
  | 0x5#4 => { Ports.ofOp p.op with item := p.item }
  | 0x6#4 => { Ports.ofOp p.op with frame := p.frame }
  | 0x7#4 => { Ports.ofOp p.op with item := p.item }
  | 0x9#4 => { Ports.ofOp p.op with now := p.now }
  | _     => Ports.ofOp p.op

/-! ### The opcode table's numbering of bits (log entry 8) -/

/-- A row of format CMD: op at bits [3:0], then the operand ports in the order of R72's table
(bit_in at 4, now_in at [36:5], item_in at [164:37], frame_in at [277:165]). -/
def portsOfCmdWord (w : Nat) : Ports :=
  { op    := BitVec.ofNat 4 w
    bit   := BitVec.ofNat 1 (w >>> 4)
    now   := BitVec.ofNat 32 (w >>> 5)
    item  := BitVec.ofNat 128 (w >>> 37)
    frame := BitVec.ofNat 113 (w >>> 165) }

/-- A row of format DISPATCH_ID: the 32 bits are the identifier of a DISPATCH command's frame, whose other
fields are 0. -/
def portsOfIdWord (w : Nat) : Ports :=
  { Ports.ofOp 0x6#4 with
      frame := frameToBits
        { bus := 0, id := BitVec.ofNat 32 w, dlc := 0, ext := false, data := Vector.replicate 8 0 } }

/-- The ports that carry a table word: the table's 32-bit rows are the DISPATCH_ID rows. -/
def portsOfTableWord (nbits w : Nat) : Ports :=
  if nbits = 32 then portsOfIdWord w else portsOfCmdWord w

/-- The instruction the decoder reads from a table word. Every op decodes: a reserved op to its own row. -/
def decodeTableWord (nbits w : Nat) : Option Instr := some (decode (portsOfTableWord nbits w))

end Sys2Proof
end

