-- ==== Sys2Proof/Machine/State.lean ====
section
/-! DEFINITION. The state of the block (10_state.md R20 to R31), its reset value (R35), the responses a
command can give (30_encoding.md R70, R73, R84), and the reasons a step can stop (60_exceptions.md). -/

namespace Sys2Proof.Machine

/-- REC, the VehicleInputs record (R20): every field with the width of its row. -/
structure VehicleInputs where
  acc1         : Half
  acc2         : Half
  brake        : Half
  startBtn     : Bool
  invState     : Byte
  dcBusV       : Half
  invTemp0     : Half
  invTemp1     : Half
  invTemp2     : Half
  invRpm       : Half
  minCellV     : Half
  prechargeAck : Byte
  ev23         : Bool
  t1189        : Bool
  torque       : Byte
deriving DecidableEq, Repr

/-- The record with every field 0: after reset (R35) and after INIT (R100). -/
def VehicleInputs.zero : VehicleInputs :=
  { acc1 := 0, acc2 := 0, brake := 0, startBtn := false, invState := 0, dcBusV := 0
    invTemp0 := 0, invTemp1 := 0, invTemp2 := 0, invRpm := 0, minCellV := 0
    prechargeAck := 0, ev23 := false, t1189 := false, torque := 0 }

/-- The six states of the startup sequence (R30): a typed model has no value for the codes 6 and 7. -/
inductive FsmState
  | boot
  | waitPrechargeAck
  | waitStartBrake
  | r2dDelay
  | ready
  | run
deriving DecidableEq, Repr

/-- What COMPUTE_TORQUE responds (R70). -/
structure TorqueReply where
  pct   : Byte
  ev23  : Bool
  t1189 : Bool
deriving DecidableEq, Repr

/-- A ControlOutput (R84): the count of valid frames, 0 to 8, eight slots, and the tick's torque. -/
structure ControlOutput where
  count  : Fin 9
  frames : Vector CanFrame 8
  torque : Byte
deriving DecidableEq, Repr

/-- The response of a command: each command gives only its own (R73, U12). Log entry 3. -/
inductive Response
  /-- no response: INIT, SET_START, DISPATCH, RXITEM; and no command yet -/
  | empty
  /-- SNAPSHOT: every REC field (R101) -/
  | record (r : VehicleInputs)
  /-- PACK (R120) -/
  | item (it : CanQueueItem)
  /-- UNPACK (R121) -/
  | frame (f : CanFrame)
  /-- COMPUTE_TORQUE (R160) -/
  | torque (t : TorqueReply)
  /-- STEP (R180) -/
  | control (o : ControlOutput)
  /-- TLM_BUILD (R210) -/
  | telemetry (b : TlmFrame)
deriving DecidableEq, Repr

/-- The response ports (R73). `none`: the command is not the port's producer and its value is
unspecified (U12). -/
structure ResponsePorts where
  itemOut  : Option (BitVec 128)
  frameOut : Option (BitVec 113)
  recOut   : Option VehicleInputs
  tqOut    : Option (BitVec 10)
  coutOut  : Option (BitVec 916)
  tlmOut   : Option (BitVec 256)
deriving DecidableEq, Repr

/-- The state. `record`, `latch`, `fsm` and `r2dT0` are the block's whole state (R20, R29, R30, R31);
`response` and `inputs` are the model's own (log entries 2 and 3). -/
structure State where
  /-- REC (R20) -/
  record   : VehicleInputs
  /-- LATCH (R29): true is set, torque cut -/
  latch    : Bool
  /-- FSM (R30) -/
  fsm      : FsmState
  /-- R2D_T0 (R31), milliseconds -/
  r2dT0    : Word
  /-- the response of the last command -/
  response : Response
  /-- what the host presents on the port, in issue order, the next one first -/
  inputs   : List PortInput
deriving DecidableEq, Repr

/-- The machine right after hardware reset (R35, R250), with no response given and nothing presented. -/
def State.reset : State :=
  { record := VehicleInputs.zero, latch := false, fsm := .boot, r2dT0 := 0
    response := .empty, inputs := [] }

/-- The block raises no exception and never faults (R230, R235): there is no reason to fault. Safe: the
spec gives every defined command an effect on every operand. Log entry 11. -/
inductive Fault
deriving DecidableEq, Repr

/-- Why a step gives an instruction no meaning. -/
inductive Refusal
  /-- An instruction without a meaning in this model, raised by an arm of `exec`; no arm raises it now.
  Safe: nothing can be proved of what such an instruction does. -/
  | notModelled (mnemonic : String)
  /-- A command with a reserved op, 0x0 or 0xB to 0xF, raised by the three reserved rows (R88, R232).
  Safe: a program that issues one cannot be proved to do anything (R232). -/
  | reservedOp (op : BitVec 4)
deriving DecidableEq, Repr

end Sys2Proof.Machine
end

