-- ==== Sys2Proof/Machine/Operands.lean ====
section
/-! DEFINITION. Operand forms: byte assembly (00_scope.md R10, 30_encoding.md R83), the bytes of a value
(R53, R87), the calibrated percentages (43_torque_safety.md R151) and the R2D time difference (R185). -/

namespace Sys2Proof.Machine

/-- `le16(b0, b1) = b0 + 256*b1` (R10, R83). -/
def le16 (b0 b1 : Byte) : Half := (b1 ++ b0 : BitVec (8 + 8))

/-- `be16(b0, b1) = 256*b0 + b1` (R10, R83). -/
def be16 (b0 b1 : Byte) : Half := (b0 ++ b1 : BitVec (8 + 8))

/-- `le32(b0, b1, b2, b3) = b0 + 2^8*b1 + 2^16*b2 + 2^24*b3` (R10). -/
def le32 (b0 b1 b2 b3 : Byte) : Word :=
  (b3 ++ b2 ++ b1 ++ b0 : BitVec (8 + 8 + 8 + 8))

/-- Byte `k` of a value: bits [8k+7 : 8k]. -/
def byteOf {n : Nat} (x : BitVec n) (k : Nat) : Byte := laneOf 8 x k

/-- `zext_8` of a 1-bit field (R8, R87). -/
def flagByte (b : Bool) : Byte := if b then 1 else 0

/-- Accelerator percentage 1: sensor 1 through its own calibration (R150, R151). -/
def pct1 (cfg : Config) (r : VehicleInputs) : Nat := (cfg.cal1 r.acc1).val

/-- Accelerator percentage 2: sensor 2 through its own calibration (R150, R151). -/
def pct2 (cfg : Config) (r : VehicleInputs) : Nat := (cfg.cal2 r.acc2).val

/-- Milliseconds since the R2D origin: `(now_ms - R2D_T0) mod 2^32` (R9, R185). -/
def elapsedMs (t0 now : Word) : Nat := (now - t0).toNat

/-- The value a dispatch row assembles from the payload and writes to its field of REC, and nothing else
(R81, R83, R125 to R130). -/
def assignRow (row : DispatchRow) (data : Payload) (r : VehicleInputs) : VehicleInputs :=
  match row with
  | .prechargeAck => { r with prechargeAck := data[0] }
  | .dcBusV       => { r with dcBusV := le16 data[0] data[1] }
  | .acc1         => { r with acc1 := le16 data[0] data[1] }
  | .acc2         => { r with acc2 := le16 data[0] data[1] }
  | .brake        => { r with brake := le16 data[0] data[1] }
  | .minCellV     => { r with minCellV := be16 data[0] data[1] }

end Sys2Proof.Machine
end

