-- ==== Sys2Proof/Machine/Flags.lean ====
section
/-! DEFINITION. The 1-bit state elements (60_exceptions.md R237): the EV2.3 latch rule (43_torque_safety.md
R153), the flags of R154 and R157, and the truth value of the precharge acknowledge (10_state.md R25). -/

namespace Sys2Proof.Machine

/-- The SET condition of R153 on the computed torque `t`: brake above the threshold and `t > 25`. -/
def latchSets (cfg : Config) (brake : Half) (t : Nat) : Bool :=
  decide (cfg.brakeThr.toNat < brake.toNat) && decide (latchSetTorque < t)

/-- The CLEAR condition of R153: brake below the threshold and `t < 5`. -/
def latchClears (cfg : Config) (brake : Half) (t : Nat) : Bool :=
  decide (brake.toNat < cfg.brakeThr.toNat) && decide (t < latchClearTorque)

/-- LATCH after the update of R153; with neither condition it is unchanged. -/
def latchUpdate (cfg : Config) (brake : Half) (t : Nat) (latch : Bool) : Bool :=
  if latchSets cfg brake t then true
  else if latchClears cfg brake t then false
  else latch

/-- The EV2.3 flag a call returns: LATCH after this call's update (R154). -/
def ev23Flag (latch' : Bool) : Bool := latch'

/-- The T11.8.9 plausibility flag, always 0 in this version (R157). -/
def t1189Flag : Bool := false

/-- The precharge acknowledge counts as true when its raw byte is nonzero (R25). -/
def prechargeTrue (r : VehicleInputs) : Bool := decide (r.prechargeAck ≠ 0)

end Sys2Proof.Machine
end

