-- ==== Sys2Proof/Machine/Ops.lean ====
section
/-! DEFINITION. The named operations over the state (00_scope.md R11: `REC.f <- v` and `respond`), the
operation of hardware reset (70_reset_and_hazards.md R250), and the record operations that commands share.
The block takes no exception (60_exceptions.md R230, R235), so no such operation exists. -/

namespace Sys2Proof.Machine

/-- `respond(v)` (R11): the command's result on the response port. -/
def State.respond (s : State) (v : Response) : State := { s with response := v }

/-- Write REC. -/
def State.setRecord (s : State) (r : VehicleInputs) : State := { s with record := r }

/-- Write LATCH; only the latch update of R153 does (R159). -/
def State.setLatch (s : State) (b : Bool) : State := { s with latch := b }

/-- Write FSM and R2D_T0; only STEP does (R30, R31). -/
def State.setControl (s : State) (q : FsmState) (t0 : Word) : State := { s with fsm := q, r2dT0 := t0 }

/-- Leave what the host presents: the next step reads `rest`. -/
def State.setInputs (s : State) (rest : List PortInput) : State := { s with inputs := rest }

/-- The hardware reset input (R250): every state element to its value of R35. What the host presents
afterwards stays (log entry 4). -/
def State.hardReset (s : State) : State := State.reset.setInputs s.inputs

/-- Write the start button (R104). -/
def VehicleInputs.setStartBtn (r : VehicleInputs) (b : Bool) : VehicleInputs := { r with startBtn := b }

/-- STEP's write-back of torque, EV2.3 and T11.8.9, together (R189). -/
def VehicleInputs.writeBack (r : VehicleInputs) (tq : Byte) (ev t11 : Bool) : VehicleInputs :=
  { r with torque := tq, ev23 := ev, t1189 := t11 }

/-- Dispatch a frame to a row already selected: ignored when the DLC is out of range (R131), or shorter
than the row's bytes under `P_DLC_MIN_CHECK` (R132); else the row's field is written (R125 to R130). -/
def dispatchRow (cfg : Config) (row : DispatchRow) (dlc : Byte) (data : Payload) (r : VehicleInputs) :
    VehicleInputs :=
  if maxDlc < dlc.toNat then r
  else if cfg.dlcMinCheck && decide (dlc.toNat < row.need) then r
  else assignRow row data r

/-- DISPATCH of a frame on the record (R123): the identifier alone selects the row (R124); an unknown one
is ignored (R131). -/
def dispatchFrame (cfg : Config) (f : CanFrame) (r : VehicleInputs) : VehicleInputs :=
  match DispatchRow.ofId f.id with
  | some row => dispatchRow cfg row f.dlc f.data r
  | none     => r

/-- What a received frame does to the state: REC by `dispatchFrame`, no response (R123). -/
def State.receive (s : State) (cfg : Config) (f : CanFrame) : State :=
  (s.setRecord (dispatchFrame cfg f s.record)).respond .empty

/-- What a received frame of a given row does to the state. -/
def State.receiveRow (s : State) (cfg : Config) (row : DispatchRow) (g : RxFrame) : State :=
  (s.setRecord (dispatchRow cfg row g.dlc g.data s.record)).respond .empty

/-- The all-zero frame of an unused slot (R84). -/
def zeroFrame : CanFrame := { bus := 0, id := 0, dlc := 0, ext := false, data := Vector.replicate 8 0 }

/-- A ControlOutput with no frame yet (R180, R84). -/
def ControlOutput.start (torque : Byte) : ControlOutput :=
  { count := 0, frames := Vector.replicate 8 zeroFrame, torque := torque }

/-- The append rule of R188: the next slot, or the frame is dropped silently when all 8 are taken. -/
def ControlOutput.append (o : ControlOutput) (f : CanFrame) : ControlOutput :=
  if h : o.count.val < 8 then
    { o with count := ⟨o.count.val + 1, Nat.succ_lt_succ h⟩, frames := o.frames.set o.count.val f h }
  else o

end Sys2Proof.Machine
end

