-- ==== Sys2Proof/Machine/Torque.lean ====
section
/-! DEFINITION. The torque safety engine and COMPUTE_TORQUE (43_torque_safety.md R150 to R160). -/

namespace Sys2Proof.Machine

/-- The gate and the average of R152: the floored mean when both percentages exceed 8, else 0. -/
def gatedMean (p1 p2 : Nat) : Nat :=
  if gatePct < p1 ∧ gatePct < p2 then (p1 + p2) / 2 else 0

/-- The deadband and the saturation of R152. -/
def deadband (t : Nat) : Nat :=
  if t < deadbandFloor then 0 else if saturationCeiling < t then fullTorque else t

/-- The computed torque `t` of R152, before the latch forces it. -/
def computedTorque (cfg : Config) (r : VehicleInputs) : Nat :=
  deadband (gatedMean (pct1 cfg r) (pct2 cfg r))

/-- `LATCH'` of R150. -/
def tseLatch (cfg : Config) (r : VehicleInputs) (latch : Bool) : Bool :=
  latchUpdate cfg r.brake (computedTorque cfg r) latch

/-- `tse(REC, LATCH)` less LATCH' (R150): the torque, forced to 0 while the latch is set (R154), and the
two flags (R154, R157). -/
def tseReply (cfg : Config) (r : VehicleInputs) (latch : Bool) : TorqueReply :=
  { pct   := if tseLatch cfg r latch then 0 else BitVec.ofNat 8 (computedTorque cfg r)
    ev23  := ev23Flag (tseLatch cfg r latch)
    t1189 := t1189Flag }

/-- COMPUTE_TORQUE under a configuration (R160): LATCH is updated, no REC field is written. -/
def State.computeTorque (s : State) (cfg : Config) : State :=
  (s.setLatch (tseLatch cfg s.record s.latch)).respond (.torque (tseReply cfg s.record s.latch))

/-- COMPUTE_TORQUE (R160). -/
def execComputeTorque (s : State) : Host.Outcome State Fault Refusal :=
  .next (s.computeTorque Config.installed)

end Sys2Proof.Machine
end

