-- ==== Sys2Proof/Machine/Control.lean ====
section
/-! DEFINITION. The control state machine and STEP (44_control_fsm.md R180 to R190; the inverter command
frame, 30_encoding.md R85). -/

namespace Sys2Proof.Machine

/-- The inverter command frame for a torque (R85). -/
def invCmdFrame (cfg : Config) (tq : Byte) : CanFrame :=
  { bus  := busInverter
    id   := cfg.invCmdId
    dlc  := BitVec.ofNat 8 cfg.invCmdDlc.val
    ext  := cfg.invCmdExt
    data := (Vector.replicate 8 (0 : Byte)).set cfg.invCmdByte.val tq cfg.invCmdByte.isLt }

/-- The guard of WAIT_START_BRAKE (R184): the button pressed and the brake above the threshold, in the
same tick. -/
def startGuard (cfg : Config) (r : VehicleInputs) : Bool :=
  r.startBtn && decide (cfg.brakeThr.toNat < r.brake.toNat)

/-- The guard of R2D_DELAY (R185). -/
def r2dGuard (t0 now : Word) : Bool := decide (r2dDelayMs ≤ elapsedMs t0 now)

/-- FSM after the one transition of a tick (R182 to R187, R190). -/
def fsmNext (cfg : Config) (r : VehicleInputs) (t0 now : Word) (q : FsmState) : FsmState :=
  match q with
  | .boot             => if prechargeTrue r then .waitStartBrake else .waitPrechargeAck
  | .waitPrechargeAck => if prechargeTrue r then .waitStartBrake else .waitPrechargeAck
  | .waitStartBrake   => if startGuard cfg r then .r2dDelay else .waitStartBrake
  | .r2dDelay         => if r2dGuard t0 now then .ready else .r2dDelay
  | .ready            => .run
  | .run              => .run

/-- R2D_T0 after a tick: the tick's time on WAIT_START_BRAKE to R2D_DELAY, else unchanged (R31, R184). -/
def r2dT0Next (cfg : Config) (r : VehicleInputs) (t0 now : Word) (q : FsmState) : Word :=
  match q with
  | .boot             => t0
  | .waitPrechargeAck => t0
  | .waitStartBrake   => if startGuard cfg r then now else t0
  | .r2dDelay         => t0
  | .ready            => t0
  | .run              => t0

/-- The tick's ControlOutput (R180, R188): the torque in every state, one inverter frame when the state at
the start of the tick is RUN. -/
def controlOutput (cfg : Config) (q : FsmState) (tq : Byte) : ControlOutput :=
  match q with
  | .boot             => ControlOutput.start tq
  | .waitPrechargeAck => ControlOutput.start tq
  | .waitStartBrake   => ControlOutput.start tq
  | .r2dDelay         => ControlOutput.start tq
  | .ready            => ControlOutput.start tq
  | .run              => (ControlOutput.start tq).append (invCmdFrame cfg tq)

/-- One control tick under a configuration (R180): every guard and the TSE read the record and the
registers as the command started. -/
def State.controlTick (s : State) (cfg : Config) (now : Word) : State :=
  let tq := tseReply cfg s.record s.latch
  let q  := fsmNext cfg s.record s.r2dT0 now s.fsm
  let t0 := r2dT0Next cfg s.record s.r2dT0 now s.fsm
  ((((s.setLatch (tseLatch cfg s.record s.latch)).setControl q t0).setRecord
    (s.record.writeBack tq.pct tq.ev23 tq.t1189)).respond (.control (controlOutput cfg s.fsm tq.pct)))

/-- STEP (R180). -/
def execStep (now : Word) (s : State) : Host.Outcome State Fault Refusal :=
  .next (s.controlTick Config.installed now)

end Sys2Proof.Machine
end

