-- ==== Sys2Proof/Machine/Reserved.lean ====
section
/-! DEFINITION. The reserved ops (30_encoding.md R88): refused, with no state change and no response
(60_exceptions.md R232). Log entry 6. -/

namespace Sys2Proof.Machine

/-- Op 0x0 (R88, R232). -/
def execReserved0 (_s : State) : Host.Outcome State Fault Refusal := .refused (.reservedOp 0x0#4)

/-- Op 0xB (R88, R232). -/
def execReservedB (_s : State) : Host.Outcome State Fault Refusal := .refused (.reservedOp 0xB#4)

/-- Ops 0xC to 0xF (R88, R232). -/
def execReservedC (low : BitVec 2) (_s : State) : Host.Outcome State Fault Refusal :=
  .refused (.reservedOp (0x3#2 ++ low))

end Sys2Proof.Machine
end

