-- ==== Sys2Proof/Machine/Codec.lean ====
section
/-! DEFINITION. The CAN codec: PACK and UNPACK (42_codec_dispatch.md R120, R121; layout 30_encoding.md R78). -/

namespace Sys2Proof.Machine

/-- The 16-byte item of a frame (R120). -/
def packItem (f : CanFrame) : CanQueueItem :=
  #v[f.bus, byteOf f.id 0, byteOf f.id 1, byteOf f.id 2, byteOf f.id 3, f.dlc, flagByte f.ext, 0,
     f.data[0], f.data[1], f.data[2], f.data[3], f.data[4], f.data[5], f.data[6], f.data[7]]

/-- The frame of a 16-byte item (R121): byte 6 is true when nonzero, byte 7 is not read. -/
def unpackItem (it : CanQueueItem) : CanFrame :=
  { bus  := it[0]
    id   := le32 it[1] it[2] it[3] it[4]
    dlc  := it[5]
    ext  := decide (it[6] ≠ 0)
    data := #v[it[8], it[9], it[10], it[11], it[12], it[13], it[14], it[15]] }

/-- PACK: the item as the response; no state is read or written (R120). -/
def execPack (f : CanFrame) (s : State) : Host.Outcome State Fault Refusal :=
  .next (s.respond (.item (packItem f)))

/-- UNPACK: the frame as the response; no state is read or written (R121). -/
def execUnpack (it : CanQueueItem) (s : State) : Host.Outcome State Fault Refusal :=
  .next (s.respond (.frame (unpackItem it)))

end Sys2Proof.Machine
end

