-- ==== Sys2Proof/Machine/RxDispatch.lean ====
section
/-! DEFINITION. DISPATCH, its six rows, and RXITEM (42_codec_dispatch.md R123 to R133). -/

namespace Sys2Proof.Machine

/-- DISPATCH of any frame (R123 to R132). -/
def execDispatch (f : CanFrame) (s : State) : Host.Outcome State Fault Refusal :=
  .next (s.receive Config.installed f)

/-- RXITEM: UNPACK, then DISPATCH of its result, as one command (R133). -/
def execRxitem (it : CanQueueItem) (s : State) : Host.Outcome State Fault Refusal :=
  .next (s.receive Config.installed (unpackItem it))

/-- DISPATCH with identifier 0x20: precharge acknowledge, byte 0 raw (R125). -/
def execRxPrechargeAck (g : RxFrame) (s : State) : Host.Outcome State Fault Refusal :=
  .next (s.receiveRow Config.installed .prechargeAck g)

/-- DISPATCH with identifier 0x100: DC bus voltage, little-endian (R126). -/
def execRxDcBusV (g : RxFrame) (s : State) : Host.Outcome State Fault Refusal :=
  .next (s.receiveRow Config.installed .dcBusV g)

/-- DISPATCH with identifier 0x101: accelerator sensor 1, little-endian (R127). -/
def execRxAcc1 (g : RxFrame) (s : State) : Host.Outcome State Fault Refusal :=
  .next (s.receiveRow Config.installed .acc1 g)

/-- DISPATCH with identifier 0x102: accelerator sensor 2, little-endian (R128). -/
def execRxAcc2 (g : RxFrame) (s : State) : Host.Outcome State Fault Refusal :=
  .next (s.receiveRow Config.installed .acc2 g)

/-- DISPATCH with identifier 0x103: brake sensor, little-endian (R129). -/
def execRxBrake (g : RxFrame) (s : State) : Host.Outcome State Fault Refusal :=
  .next (s.receiveRow Config.installed .brake g)

/-- DISPATCH with identifier 0x12C: minimum cell voltage, big-endian (R130). -/
def execRxMinCellV (g : RxFrame) (s : State) : Host.Outcome State Fault Refusal :=
  .next (s.receiveRow Config.installed .minCellV g)

end Sys2Proof.Machine
end

