-- ==== Sys2Proof/Machine/SharedState.lean ====
section
/-! DEFINITION. INIT, SNAPSHOT and SET_START (41_shared_state.md R100, R101, R104). -/

namespace Sys2Proof.Machine

/-- INIT: every field of REC to 0; LATCH, FSM and R2D_T0 are not written (R100). -/
def execInit (s : State) : Host.Outcome State Fault Refusal :=
  .next ((s.setRecord VehicleInputs.zero).respond .empty)

/-- SNAPSHOT: the whole record as the response (R101). -/
def execSnapshot (s : State) : Host.Outcome State Fault Refusal :=
  .next (s.respond (.record s.record))

/-- SET_START: the start button (R104). -/
def execSetStart (b : Bool) (s : State) : Host.Outcome State Fault Refusal :=
  .next ((s.setRecord (s.record.setStartBtn b)).respond .empty)

end Sys2Proof.Machine
end

