-- ==== Sys2Proof/Machine/Telemetry.lean ====
section
/-! DEFINITION. TLM_BUILD, the 32-byte telemetry status frame (45_telemetry.md R210; 30_encoding.md R87). -/

namespace Sys2Proof.Machine

/-- The status frame of a record: 16-bit fields little-endian, flags zero-extended, bytes 16 to 31 zero. -/
def telemetryFrame (r : VehicleInputs) : TlmFrame :=
  #v[r.invState, r.torque, byteOf r.dcBusV 0, byteOf r.dcBusV 1,
     byteOf r.minCellV 0, byteOf r.minCellV 1, byteOf r.acc1 0, byteOf r.acc1 1,
     byteOf r.acc2 0, byteOf r.acc2 1, byteOf r.brake 0, byteOf r.brake 1,
     flagByte r.ev23, flagByte r.t1189, r.prechargeAck, flagByte r.startBtn,
     0, 0, 0, 0, 0, 0, 0, 0, 0, 0, 0, 0, 0, 0, 0, 0]

/-- TLM_BUILD: the status frame as the response; no state is written (R210). -/
def execTlmBuild (s : State) : Host.Outcome State Fault Refusal :=
  .next (s.respond (.telemetry (telemetryFrame s.record)))

end Sys2Proof.Machine
end

