-- ==== Sys2Proof/Machine/Dispatch.lean ====
section
/-! DEFINITION. One arm per instruction, each the direct call of its meaning. -/

namespace Sys2Proof.Machine

def exec (i : Instr) (s : State) : Host.Outcome State Fault Refusal :=
  match i with
  | .init => Sys2Proof.Machine.execInit s
  | .snapshot => Sys2Proof.Machine.execSnapshot s
  | .setStart b => Sys2Proof.Machine.execSetStart b s
  | .pack f => Sys2Proof.Machine.execPack f s
  | .unpack it => Sys2Proof.Machine.execUnpack it s
  | .dispatch f => Sys2Proof.Machine.execDispatch f s
  | .rxitem it => Sys2Proof.Machine.execRxitem it s
  | .computeTorque => Sys2Proof.Machine.execComputeTorque s
  | .step now => Sys2Proof.Machine.execStep now s
  | .tlmBuild => Sys2Proof.Machine.execTlmBuild s
  | .reserved0 => Sys2Proof.Machine.execReserved0 s
  | .reservedB => Sys2Proof.Machine.execReservedB s
  | .reservedC low => Sys2Proof.Machine.execReservedC low s
  | .rxPrechargeAck g => Sys2Proof.Machine.execRxPrechargeAck g s
  | .rxDcBusV g => Sys2Proof.Machine.execRxDcBusV g s
  | .rxAcc1 g => Sys2Proof.Machine.execRxAcc1 g s
  | .rxAcc2 g => Sys2Proof.Machine.execRxAcc2 g s
  | .rxBrake g => Sys2Proof.Machine.execRxBrake g s
  | .rxMinCellV g => Sys2Proof.Machine.execRxMinCellV g s

end Sys2Proof.Machine
end

