-- ==== Sys2Proof/Machine/Step.lean ====
section
/-! DEFINITION. One step of the machine: the next thing the host presents (00_scope.md R4, 20_memory.md R59).
-/

namespace Sys2Proof.Machine

/-- One step. With nothing presented the block holds its state (60_exceptions.md R242, log entry 5); the
reset input resets it (70_reset_and_hazards.md R250, log entry 4); a command is decoded (30_encoding.md R75)
and runs whole. -/
def step (s : State) : Host.Outcome State Fault Refusal :=
  match s.inputs with
  | []                 => .next s
  | .reset :: rest     => .next (s.setInputs rest).hardReset
  | .command p :: rest => exec (decode p) (s.setInputs rest)

/-- Present a table word as the next command, before anything else the host presents (log entries 2, 8). -/
def State.withFetchWord (s : State) (nbits w : Nat) : State :=
  s.setInputs (.command (portsOfTableWord nbits w) :: s.inputs)

end Sys2Proof.Machine
end

