-- ==== Sys2Proof/Machine/Assembler.lean ====
section
/-! DEFINITION. The command syntax (30_encoding.md R91) and the pseudo-commands (R92): from a line of text
to what the host presents on the port. The details R91 leaves open are in log entry 12. -/

namespace Sys2Proof.Machine

/-! ### Pseudo-commands (R92) -/

/-- `PRESS` (R92). -/
def pressButton : Instr := .setStart true

/-- `RELEASE` (R92). -/
def releaseButton : Instr := .setStart false

/-- The frame `bus=1, id=ID, dlc=2, ext=0, data=[b0 b1 00 ...]` of RX16 and RXBE16 (R92). -/
def rxPairFrame (id : Word) (b0 b1 : Byte) : CanFrame :=
  { bus := 1, id := id, dlc := 2, ext := false, data := #v[b0, b1, 0, 0, 0, 0, 0, 0] }

/-- `RX16 ID V` (R92): low byte first. -/
def rx16 (id : Word) (v : Half) : Instr :=
  .dispatch (rxPairFrame id (v.extractLsb' 0 8) (v.extractLsb' 8 8))

/-- `RXBE16 ID V` (R92): high byte first. -/
def rxBe16 (id : Word) (v : Half) : Instr :=
  .dispatch (rxPairFrame id (v.extractLsb' 8 8) (v.extractLsb' 0 8))

/-! ### Tokens -/

/-- The characters that are tokens by themselves: , ; < ; = ; > ; the square and the curly brackets. -/
def isPunctuation (c : Char) : Bool := [44, 60, 61, 62, 91, 93, 123, 125].contains c.toNat

/-- Space and tab separate tokens. -/
def isBlank (c : Char) : Bool := [9, 32].contains c.toNat

/-- A word read so far (its characters in reverse), before the tokens that follow it. -/
def flushWord (word : List Char) (rest : List (List Char)) : List (List Char) :=
  if word.isEmpty then rest else word.reverse :: rest

/-- The tokens of a line: words, and punctuation characters one by one. -/
def tokensFrom (word : List Char) : List Char → List (List Char)
  | []      => flushWord word []
  | c :: cs =>
    if isBlank c then flushWord word (tokensFrom [] cs)
    else if isPunctuation c then flushWord word ([c] :: tokensFrom [] cs)
    else tokensFrom (c :: word) cs

/-! ### Numerals (R91) -/

/-- The value of a digit, in decimal or hexadecimal. -/
def digitValue (c : Char) : Option Nat :=
  let n := c.toNat
  if 48 ≤ n ∧ n ≤ 57 then some (n - 48)
  else if 65 ≤ n ∧ n ≤ 70 then some (n - 55)
  else if 97 ≤ n ∧ n ≤ 102 then some (n - 87)
  else none

/-- The value of digits in a base, most significant first, after a value read so far. -/
def digitsValue (base acc : Nat) : List Char → Option Nat
  | []      => some acc
  | c :: cs =>
    match digitValue c with
    | some d => if d < base then digitsValue base (base * acc + d) cs else none
    | none   => none

/-- A decimal numeral, or a hexadecimal one after `0x`. -/
def numeral : List Char → Option Nat
  | []                    => none
  | '0' :: 'x' :: c :: cs => digitsValue 16 0 (c :: cs)
  | c :: cs               => digitsValue 10 0 (c :: cs)

/-- A numeral that fits in `w` bits. -/
def numeralOf (w : Nat) (t : List Char) : Option (BitVec w) :=
  match numeral t with
  | some n => if n < 2 ^ w then some (BitVec.ofNat w n) else none
  | none   => none

/-- A two-digit hexadecimal byte. -/
def hexByte : List Char → Option Byte
  | [a, b] => (digitsValue 16 0 [a, b]).map (BitVec.ofNat 8)
  | _      => none

/-- Two-digit hexadecimal bytes, one a token. -/
def hexBytes : List (List Char) → Option (List Byte)
  | []      => some []
  | t :: ts =>
    match hexByte t, hexBytes ts with
    | some b, some bs => some (b :: bs)
    | _, _            => none

/-- A list of exactly `n` bytes as a vector. -/
def vectorOf (n : Nat) (l : List Byte) : Option (Vector Byte n) :=
  if h : l.length = n then some (Vector.mk l.toArray (by simpa using h)) else none

/-! ### Operands and lines (R91) -/

/-- The words and signs of a CanFrame's spelling, its seven operands left out:
curly bracket, bus = , id = , dlc = , ext = , data = square bracket. -/
def frameSigns : List (List Char) :=
  [[Char.ofNat 123], "bus".toList, ['='], [','], "id".toList, ['='], [','], "dlc".toList, ['='], [','],
   "ext".toList, ['='], [','], "data".toList, ['='], ['[']]

/-- A CanFrame: the fields in the order R91 spells them. -/
def frameOperand : List (List Char) → Option CanFrame
  | o :: kb :: e1 :: b :: c1 :: ki :: e2 :: i :: c2 :: kd :: e3 :: d :: c3 :: kx :: e4 :: x :: c4 :: kt ::
      e5 :: l :: d0 :: d1 :: d2 :: d3 :: d4 :: d5 :: d6 :: d7 :: tail =>
    if [o, kb, e1, c1, ki, e2, c2, kd, e3, c3, kx, e4, c4, kt, e5, l] = frameSigns ∧
        tail = [[']'], [Char.ofNat 125]] then
      match numeralOf 8 b, numeralOf 32 i, numeralOf 8 d, numeralOf 1 x,
          (hexBytes [d0, d1, d2, d3, d4, d5, d6, d7]).bind (vectorOf 8) with
      | some bus, some id, some dlc, some ext, some data =>
        some { bus := bus, id := id, dlc := dlc, ext := ext.getLsbD 0, data := data }
      | _, _, _, _, _ => none
    else none
  | _ => none

/-- An item: sixteen two-digit hexadecimal bytes between angle brackets. -/
def itemOperand : List (List Char) → Option CanQueueItem
  | o :: rest =>
    if o = ['<'] ∧ rest.drop 16 = [['>']] then (hexBytes (rest.take 16)).bind (vectorOf 16) else none
  | [] => none

/-- The commands without an operand, and the pseudo-commands without one. -/
def plainCommand (name : List Char) : Option Instr :=
  if name = "INIT".toList then some .init
  else if name = "SNAPSHOT".toList then some .snapshot
  else if name = "COMPUTE_TORQUE".toList then some .computeTorque
  else if name = "TLM_BUILD".toList then some .tlmBuild
  else if name = "PRESS".toList then some pressButton
  else if name = "RELEASE".toList then some releaseButton
  else none

/-- The commands with operands, and the pseudo-commands with them. -/
def operandCommand (name : List Char) (ts : List (List Char)) : Option Instr :=
  if name = "SET_START".toList then
    match ts with
    | [t] => (numeralOf 1 t).map fun b => .setStart (b.getLsbD 0)
    | _   => none
  else if name = "STEP".toList then
    match ts with
    | [t] => (numeralOf 32 t).map .step
    | _   => none
  else if name = "PACK".toList then (frameOperand ts).map .pack
  else if name = "DISPATCH".toList then (frameOperand ts).map .dispatch
  else if name = "UNPACK".toList then (itemOperand ts).map .unpack
  else if name = "RXITEM".toList then (itemOperand ts).map .rxitem
  else if name = "RX16".toList then
    match ts with
    | [i, v] => (numeralOf 32 i).bind fun id => (numeralOf 16 v).map (rx16 id)
    | _      => none
  else if name = "RXBE16".toList then
    match ts with
    | [i, v] => (numeralOf 32 i).bind fun id => (numeralOf 16 v).map (rxBe16 id)
    | _      => none
  else none

/-- One line (R91): a comment begins with `;`, else a mnemonic and its operand; none for any other text. -/
def asmLine (line : List Char) : Option AsmLine :=
  match line with
  | ';' :: _ => some .comment
  | _ =>
    match tokensFrom [] line with
    | []         => none
    | [name]     => (plainCommand name).map .command
    | name :: ts => (operandCommand name ts).map .command

/-- A program text, one command a line, as what the host presents on the port: pseudo-commands are expanded
before decoding (R92), comments are left out, and a line that is none of R91's refuses the text. -/
def assemble : List (List Char) → Option (List PortInput)
  | []            => some []
  | line :: lines =>
    match asmLine line, assemble lines with
    | some .comment, some rest     => some rest
    | some (.command i), some rest => some (.command (encode i) :: rest)
    | _, _                         => none

end Sys2Proof.Machine
end

