-- ==== Sys2Proof/Machine/Reference.lean ====
section
/-! DEFINITION. The reference configuration CFG0 of the test vectors (92_eei_decisions.md D40), which is no
claim about the real constants, and the linear calibration it uses (43_torque_safety.md R151). No meaning
uses this file. -/

namespace Sys2Proof.Machine

/-- `cal(r; z, s)` of R151 for a span `s > 0`: 0 up to the zero, then linear with floor, at most 100. -/
def linearCal (z s : Nat) (r : Half) : Fin 101 :=
  if r.toNat ≤ z then 0
  else ⟨min 100 ((r.toNat - z) * 100 / s), Nat.lt_succ_of_le (Nat.min_le_left 100 _)⟩

/-- CFG0 (D40). -/
def cfg0 : Config :=
  { brakeThr := 1000, cal1 := linearCal 0 4095, cal2 := linearCal 0 4095
    invCmdId := 0x181, invCmdByte := 0, invCmdDlc := 8, invCmdExt := false, dlcMinCheck := false }

end Sys2Proof.Machine
end

