-- ==== Sys2Proof/Machine/ResponsePorts.lean ====
section
/-! DEFINITION. The bits on the response ports (30_encoding.md R73, R74, R79, R80, R84, R86) and the codes of
the FSM states (10_state.md R30). -/

namespace Sys2Proof.Machine

/-- `tq_out` (R73): [7:0] pct, [8] ev23, [9] t1189. -/
def torqueToBits (t : TorqueReply) : BitVec 10 :=
  (BitVec.ofBool t.t1189 ++ BitVec.ofBool t.ev23 ++ t.pct : BitVec (1 + 1 + 8))

/-- `cout_out` (R84): [3:0] count, [11:4] torque, frame k at [124+113k : 12+113k]. -/
def controlToBits (o : ControlOutput) : BitVec 916 :=
  (lanesToBits (o.frames.map frameToBits) ++ o.torque ++ BitVec.ofNat 4 o.count.val
    : BitVec (113 * 8 + 8 + 4))

/-- `tlm_out` (R73, R86): byte k at [8k+7 : 8k]. -/
def telemetryToBits (b : TlmFrame) : BitVec 256 := bytesToBits b

/-- Every response port without a value. -/
def ResponsePorts.unspecified : ResponsePorts :=
  { itemOut := none, frameOut := none, recOut := none, tqOut := none, coutOut := none, tlmOut := none }

/-- The response on its port; the ports of other producers are unspecified (R73). -/
def Response.onPorts : Response → ResponsePorts
  | .empty       => ResponsePorts.unspecified
  | .record r    => { ResponsePorts.unspecified with recOut := some r }
  | .item it     => { ResponsePorts.unspecified with itemOut := some (itemToBits it) }
  | .frame f     => { ResponsePorts.unspecified with frameOut := some (frameToBits f) }
  | .torque t    => { ResponsePorts.unspecified with tqOut := some (torqueToBits t) }
  | .control o   => { ResponsePorts.unspecified with coutOut := some (controlToBits o) }
  | .telemetry b => { ResponsePorts.unspecified with tlmOut := some (telemetryToBits b) }

/-- The 3-bit code of an FSM state (R30). -/
def FsmState.code : FsmState → BitVec 3
  | .boot             => 0
  | .waitPrechargeAck => 1
  | .waitStartBrake   => 2
  | .r2dDelay         => 3
  | .ready            => 4
  | .run              => 5

end Sys2Proof.Machine
end

