-- ==== Sys2Proof/Safety.lean ====
section
/-! DEFINITION. What counts as a safe state and a safe run, in the terms the statements use: the torque range
(43_torque_safety.md R155, 10_state.md R27), the fields without a writer (R24), the persistence of the latch
(R156), the host's duty for time (44_control_fsm.md R181), and the conditions of R161. -/

namespace Sys2Proof.Machine

/-- The values a torque result can take: 0, 10 to 90, or 100 (R152, R155). -/
def TorqueRange (t : Nat) : Prop := t = 0 ∨ (10 ≤ t ∧ t ≤ 90) ∨ t = 100

/-- What holds of the record in every reachable state: the torque's range (R27), T11.8.9 at 0 (R26, R157),
and 0 in the five fields that nothing but reset and INIT writes (R24). -/
structure VehicleInputs.Inv (r : VehicleInputs) : Prop where
  torque   : TorqueRange r.torque.toNat
  t1189    : r.t1189 = false
  invState : r.invState = 0
  invTemp0 : r.invTemp0 = 0
  invTemp1 : r.invTemp1 = 0
  invTemp2 : r.invTemp2 = 0
  invRpm   : r.invRpm = 0

/-- A ControlOutput as STEP makes it (R84, R188): at most one frame, every slot from `count` on the zero
frame, a torque in range. -/
structure ControlOutput.Inv (o : ControlOutput) : Prop where
  count  : o.count.val ≤ 1
  unused : ∀ (k : Nat) (h : k < 8), o.count.val ≤ k → o.frames[k] = zeroFrame
  torque : TorqueRange o.torque.toNat

/-- What holds of every response the block gives. -/
def Response.Inv : Response → Prop
  | .empty       => True
  | .record r    => r.Inv
  | .item it     => it[7] = 0 ∧ (it[6] = 0 ∨ it[6] = 1)
  | .frame _     => True
  | .torque t    => TorqueRange t.pct.toNat ∧ t.t1189 = false ∧ (t.ev23 = true → t.pct = 0)
  | .control o   => o.Inv
  | .telemetry b => TorqueRange b[1].toNat ∧ b[0] = 0 ∧ b[13] = 0 ∧
      ∀ (k : Nat) (h : k < 32), 16 ≤ k → b[k] = 0

/-- The invariant of the machine. -/
structure State.Inv (s : State) : Prop where
  record   : s.record.Inv
  response : s.response.Inv

/-- The frame that a command dispatches to the record: DISPATCH and its rows (R123), RXITEM (R133). -/
def receivedFrame : Instr → Option CanFrame
  | .dispatch f       => some f
  | .rxitem it        => some (unpackItem it)
  | .rxPrechargeAck g => some (g.toFrame DispatchRow.prechargeAck.id)
  | .rxDcBusV g       => some (g.toFrame DispatchRow.dcBusV.id)
  | .rxAcc1 g         => some (g.toFrame DispatchRow.acc1.id)
  | .rxAcc2 g         => some (g.toFrame DispatchRow.acc2.id)
  | .rxBrake g        => some (g.toFrame DispatchRow.brake.id)
  | .rxMinCellV g     => some (g.toFrame DispatchRow.minCellV.id)
  | _                 => none

/-- The reserved rows of the opcode table (R88). -/
def reservedRow : Instr → Bool
  | .reserved0   => true
  | .reservedB   => true
  | .reservedC _ => true
  | _            => false

/-- The DLC of a frame of a known identifier passes the checks of R131 and R132, for a field of `need`
bytes. -/
def DlcTaken (cfg : Config) (need : Nat) (dlc : Byte) : Prop :=
  dlc.toNat ≤ 8 ∧ (cfg.dlcMinCheck = true → need ≤ dlc.toNat)

/-- The commands that run the torque safety engine (R29, R159). -/
def runsTse : Instr → Bool
  | .computeTorque => true
  | .step _        => true
  | _              => false

/-- The next thing presented is the reset input. -/
def State.atReset (s : State) : Bool :=
  match s.inputs with
  | .reset :: _ => true
  | _           => false

/-- The next thing presented is a call of the torque safety engine that sees the clear condition of R153:
the brake below the threshold and a computed torque of 0. -/
def State.atClear (cfg : Config) (s : State) : Bool :=
  match s.inputs with
  | .command p :: _ =>
    runsTse (decode p) && decide (s.record.brake.toNat < cfg.brakeThr.toNat) &&
      decide (computedTorque cfg s.record = 0)
  | _ => false

/-- `n` steps from `s` that all answer a next state, none of them a reset or a clearing call. -/
def Unreleased (cfg : Config) : Nat → State → State → Prop
  | 0, s, t     => t = s
  | n + 1, s, t =>
    s.atReset = false ∧ s.atClear cfg = false ∧
      ∃ u, step s = .next u ∧ Unreleased cfg n u t

/-- What a response reports while torque is cut: a torque of 0 and, from COMPUTE_TORQUE, EV2.3 set (R156).
A frame of the batch carries 0 in every payload byte. -/
def Response.Cut : Response → Prop
  | .torque t  => t.pct = 0 ∧ t.ev23 = true
  | .control o => o.torque = 0 ∧ ∀ (k : Nat) (h : k < 8), o.frames[k].data = Vector.replicate 8 0
  | _          => True

/-- The host's duty for one later STEP (R181, D30), on ideal times in milliseconds: time does not go back
from the R2D entry, and less than 2^32 ms have passed. -/
def HostDuty (entry now : Nat) : Prop := entry ≤ now ∧ now - entry < 2 ^ 32

/-- The condition of R161 for the mid-scale scenario. -/
def MidScale (cfg : Config) : Prop :=
  8 < (cfg.cal1 2048).val ∧ 8 < (cfg.cal2 2048).val ∧
    30 ≤ ((cfg.cal1 2048).val + (cfg.cal2 2048).val) / 2 ∧
    ((cfg.cal1 2048).val + (cfg.cal2 2048).val) / 2 ≤ 70

/-- The condition of R161 for the zero scenario. -/
def ZeroScale (cfg : Config) : Prop :=
  (cfg.cal1 0).val ≤ 8 ∨ (cfg.cal2 0).val ≤ 8 ∨ ((cfg.cal1 0).val + (cfg.cal2 0).val) / 2 < 10

/-- The condition of R161 for the full-scale scenario, max = 4095 (D29). -/
def FullScale (cfg : Config) : Prop :=
  8 < (cfg.cal1 4095).val ∧ 8 < (cfg.cal2 4095).val ∧
    90 < ((cfg.cal1 4095).val + (cfg.cal2 4095).val) / 2

/-- A configuration is §8-conformant when the four conditions of R161 hold. -/
structure Conformant (cfg : Config) : Prop where
  mid   : MidScale cfg
  zero  : ZeroScale cfg
  full  : FullScale cfg
  brake : cfg.brakeThr.toNat < 4095

end Sys2Proof.Machine
end

