-- ==== Sys2Proof/Certificates/Slice0/Obligations.lean ====
section
/-! DEFINITION. The statements for the provers, each from the numbered rules of spec/. Where a statement
rests on a choice of the model and not on a rule, its docstring names the log entry. -/

open Sys2Proof Sys2Proof.Machine

/-! ### Reset, the port and the step -/

/-- 10_state.md R35: the value of every state element after hardware reset. -/
def Obligations.ResetValues : Prop :=
  State.reset.record =
    { acc1 := 0, acc2 := 0, brake := 0, startBtn := false, invState := 0, dcBusV := 0, invTemp0 := 0,
      invTemp1 := 0, invTemp2 := 0, invRpm := 0, minCellV := 0, prechargeAck := 0, ev23 := false,
      t1189 := false, torque := 0 } ∧
  State.reset.latch = false ∧ State.reset.fsm = .boot ∧ FsmState.boot.code = 0 ∧ State.reset.r2dT0 = 0

/-- 70_reset_and_hazards.md R250 on the reset input. That the input stands in a list of the model, and that
what the host presents after it stays, is log entries 2 and 4. -/
def Obligations.ResetInputRestoresReset : Prop :=
  ∀ (s : State) (rest : List PortInput), s.inputs = .reset :: rest →
    ∃ t, step s = .next t ∧ t.record = State.reset.record ∧ t.latch = false ∧ t.fsm = .boot ∧
      t.r2dT0 = 0 ∧ t.inputs = rest

/-- 60_exceptions.md R242, between commands the block holds its state. That a step with nothing presented
answers the same state is log entry 5. -/
def Obligations.IdleStepHoldsState : Prop :=
  ∀ s : State, s.inputs = [] → step s = .next s

/-- A step runs the decoded command (00_scope.md R4, 20_memory.md R59): it takes the command from what the
host presents (log entry 2) and is `exec` of the decoded instruction. -/
def Obligations.StepRunsDecodedCommand : Prop :=
  ∀ (s : State) (p : Ports) (rest : List PortInput) (i : Instr),
    s.inputs = .command p :: rest → decode p = i → step s = exec i { s with inputs := rest }

/-! ### Encodings -/

/-- 30_encoding.md R70 and R75: what each op decodes to, on all 16 values, with the operand from its port
(R72). R75 and R88 make a reserved op (0x0, 0xB, 0xC to 0xF) a refusal; that it decodes to a row of its own,
which is refused when it runs, is the model's choice, log entry 6. -/
def Obligations.DecodeByOp : Prop :=
  ∀ p : Ports,
    (p.op = 0x0#4 → decode p = .reserved0) ∧ (p.op = 0x1#4 → decode p = .init) ∧
    (p.op = 0x2#4 → decode p = .snapshot) ∧
    (p.op = 0x3#4 → decode p = .setStart (decide (p.bit = 1#1))) ∧
    (p.op = 0x4#4 → decode p = .pack (frameOfBits p.frame)) ∧
    (p.op = 0x5#4 → decode p = .unpack (itemOfBits p.item)) ∧
    (p.op = 0x6#4 → receivedFrame (decode p) = some (frameOfBits p.frame)) ∧
    (p.op = 0x7#4 → decode p = .rxitem (itemOfBits p.item)) ∧
    (p.op = 0x8#4 → decode p = .computeTorque) ∧ (p.op = 0x9#4 → decode p = .step p.now) ∧
    (p.op = 0xA#4 → decode p = .tlmBuild) ∧ (p.op = 0xB#4 → decode p = .reservedB) ∧
    (0xC ≤ p.op.toNat → decode p = .reservedC (p.op.extractLsb' 0 2))

/-- Words written out in 95_test_vectors.md (P1, E11, K1, X1) decode to the instructions they stand for.
R75 reads the third as `DISPATCH(f)`; that identifier 0x20 decodes to the instruction of its row of the
dispatch map is the model's choice, log entry 7. -/
def Obligations.WrittenWordsDecode : Prop :=
  decode { op := 0x9, bit := 0, now := 0x000007ED, item := 0, frame := 0 } = .step 2029 ∧
  decode { op := 0x3, bit := 1, now := 0, item := 0, frame := 0 } = .setStart true ∧
  decode { op := 0x6, bit := 0, now := 0, item := 0, frame := 0x2010000002002 } =
    .rxPrechargeAck { bus := 2, dlc := 1, ext := false, data := #v[1, 0, 0, 0, 0, 0, 0, 0] } ∧
  decode { op := 0x4, bit := 0, now := 0, item := 0, frame := 0x64080000018101 } =
    .pack { bus := 1, id := 0x181, dlc := 8, ext := false, data := #v[0x32, 0, 0, 0, 0, 0, 0, 0] } ∧
  decode { op := 0x7, bit := 0, now := 0, item := 0x00000000000000010000010000002002, frame := 0 } =
    .rxitem #v[2, 0x20, 0, 0, 0, 1, 0, 0, 1, 0, 0, 0, 0, 0, 0, 0]

/-- Decoding an encoded well-formed instruction gives it back, with every operand at every value. -/
def Obligations.DecodeOfEncode : Prop :=
  ∀ i : Instr, i.wf = true → decode (encode i) = i

/-- Encoding what a port decodes to gives the port back, unused ports at 0; and what the decoder answers is
well formed. -/
def Obligations.EncodeOfDecode : Prop :=
  ∀ p : Ports, (decode p).wf = true ∧ encode (decode p) = p.used

/-- 30_encoding.md R72: an op ignores the ports it does not use. -/
def Obligations.UnusedPortsIgnored : Prop :=
  ∀ p q : Ports, p.op = q.op →
    (p.op = 0x3#4 → p.bit = q.bit) →
    (p.op = 0x4#4 ∨ p.op = 0x6#4 → p.frame = q.frame) →
    (p.op = 0x5#4 ∨ p.op = 0x7#4 → p.item = q.item) →
    (p.op = 0x9#4 → p.now = q.now) →
    decode p = decode q

/-- 30_encoding.md R80: the bits of a frame on its port, and that they are all of it. -/
def Obligations.FrameBitLayout : Prop :=
  (∀ f : CanFrame,
    (frameToBits f).extractLsb' 0 8 = f.bus ∧ (frameToBits f).extractLsb' 8 32 = f.id ∧
    (frameToBits f).extractLsb' 40 8 = f.dlc ∧ (frameToBits f).getLsbD 48 = f.ext ∧
    ∀ (k : Nat) (h : k < 8), (frameToBits f).extractLsb' (49 + 8 * k) 8 = f.data[k]) ∧
  ∀ x : BitVec 113, frameToBits (frameOfBits x) = x

/-- 30_encoding.md R74: byte k of a byte vector on a port, in both directions for the item. -/
def Obligations.ByteLanes : Prop :=
  (∀ (it : CanQueueItem) (k : Nat) (h : k < 16), (itemToBits it).extractLsb' (8 * k) 8 = it[k]) ∧
  (∀ (x : BitVec 128) (k : Nat) (h : k < 16), (itemOfBits x)[k] = x.extractLsb' (8 * k) 8) ∧
  (∀ (b : TlmFrame) (k : Nat) (h : k < 32), (telemetryToBits b).extractLsb' (8 * k) 8 = b[k])

/-- 30_encoding.md R84: the bits of a ControlOutput on its port. -/
def Obligations.ControlOutputBits : Prop :=
  ∀ o : ControlOutput,
    (controlToBits o).extractLsb' 0 4 = BitVec.ofNat 4 o.count.val ∧
    (controlToBits o).extractLsb' 4 8 = o.torque ∧
    ∀ (k : Nat) (h : k < 8), (controlToBits o).extractLsb' (12 + 113 * k) 113 = frameToBits o.frames[k]

/-- 30_encoding.md R73, R84 and R86: each response stands on its own port and on no other, in the layout of
that port; the bits of tq_out. The typed response is the field of log entry 3. -/
def Obligations.ResponsePortsOfCommands : Prop :=
  ResponsePorts.unspecified =
    { itemOut := none, frameOut := none, recOut := none, tqOut := none, coutOut := none, tlmOut := none } ∧
  ∀ s : State,
    (∃ t, exec .computeTorque s = .next t ∧
      ∃ x, t.response.onPorts = { ResponsePorts.unspecified with tqOut := some x } ∧
        x.extractLsb' 0 8 = (tseReply Config.installed s.record s.latch).pct ∧
        x.getLsbD 8 = tseLatch Config.installed s.record s.latch ∧ x.getLsbD 9 = false) ∧
    (∃ t, exec .snapshot s = .next t ∧
      t.response.onPorts = { ResponsePorts.unspecified with recOut := some s.record }) ∧
    (∀ f, ∃ t, exec (.pack f) s = .next t ∧
      t.response.onPorts = { ResponsePorts.unspecified with itemOut := some (itemToBits (packItem f)) }) ∧
    (∀ it, ∃ t, exec (.unpack it) s = .next t ∧
      t.response.onPorts =
        { ResponsePorts.unspecified with frameOut := some (frameToBits (unpackItem it)) }) ∧
    (∀ now, ∃ t o, exec (.step now) s = .next t ∧ t.response = .control o ∧
      t.response.onPorts = { ResponsePorts.unspecified with coutOut := some (controlToBits o) }) ∧
    (∃ t b, exec .tlmBuild s = .next t ∧ t.response = .telemetry b ∧
      t.response.onPorts = { ResponsePorts.unspecified with tlmOut := some (telemetryToBits b) })

/-! ### Shared state -/

/-- 41_shared_state.md R100: INIT zeroes the record, and nothing else changes. -/
def Obligations.InitZeroesRecord : Prop :=
  (∀ p : Ports, p.op = 0x1#4 → decode p = .init) ∧
  (∀ s : State, exec .init s = .next
    { s with
      record :=
        { acc1 := 0, acc2 := 0, brake := 0, startBtn := false, invState := 0, dcBusV := 0, invTemp0 := 0,
          invTemp1 := 0, invTemp2 := 0, invRpm := 0, minCellV := 0, prechargeAck := 0, ev23 := false,
          t1189 := false, torque := 0 }
      response := .empty }) ∧
  exec .init State.reset = .next State.reset ∧
  ∀ (s : State) (now : Word), s.fsm = .run →
    ∃ t u, exec .init s = .next t ∧ exec (.step now) t = .next u ∧ u.fsm = .run

/-- 41_shared_state.md R101: SNAPSHOT responds every field and changes nothing; a second one responds the
same record while the record is the same. -/
def Obligations.SnapshotRespondsRecord : Prop :=
  (∀ p : Ports, p.op = 0x2#4 → decode p = .snapshot) ∧
  (∀ s : State, ∃ t, exec .snapshot s = .next t ∧ t = { s with response := .record s.record } ∧
    exec .snapshot t = .next t) ∧
  ∀ s u : State, u.record = s.record → ∃ t v, exec .snapshot s = .next t ∧ exec .snapshot u = .next v ∧
    v.response = t.response

/-- 41_shared_state.md R104: SET_START writes the start button and nothing else of the state. -/
def Obligations.SetStartWritesButton : Prop :=
  (∀ p : Ports, p.op = 0x3#4 → decode p = .setStart (p.bit.getLsbD 0)) ∧
  ∀ (b : Bool) (s : State), exec (.setStart b) s = .next
    { s with record := { s.record with startBtn := b }, response := .empty }

/-! ### Codec -/

/-- 42_codec_dispatch.md R120: the bytes of PACK's item; no state is written. -/
def Obligations.PackBuildsItem : Prop :=
  (∀ p : Ports, p.op = 0x4#4 → decode p = .pack (frameOfBits p.frame)) ∧
  ∀ (f : CanFrame) (s : State), ∃ it : CanQueueItem,
    exec (.pack f) s = .next { s with response := .item it } ∧
    it[0] = f.bus ∧
    it[1].toNat + 2 ^ 8 * it[2].toNat + 2 ^ 16 * it[3].toNat + 2 ^ 24 * it[4].toNat = f.id.toNat ∧
    it[5] = f.dlc ∧ it[6] = (if f.ext = true then 1 else 0) ∧ it[7] = 0 ∧
    ∀ (k : Nat) (h : k < 8), it[8 + k] = f.data[k]

/-- 42_codec_dispatch.md R121: the frame of UNPACK's item; no state is written. -/
def Obligations.UnpackReadsItem : Prop :=
  (∀ p : Ports, p.op = 0x5#4 → decode p = .unpack (itemOfBits p.item)) ∧
  ∀ (it : CanQueueItem) (s : State), ∃ f : CanFrame,
    exec (.unpack it) s = .next { s with response := .frame f } ∧
    f.bus = it[0] ∧
    f.id.toNat = it[1].toNat + 2 ^ 8 * it[2].toNat + 2 ^ 16 * it[3].toNat + 2 ^ 24 * it[4].toNat ∧
    f.dlc = it[5] ∧ (f.ext = true ↔ it[6] ≠ 0) ∧
    ∀ (k : Nat) (h : k < 8), f.data[k] = it[8 + k]

/-- 42_codec_dispatch.md R122, the four codec laws: round trip, injectivity, partial converse with the normal
form of the other items, totality without touching a state element. -/
def Obligations.CodecLaws : Prop :=
  (∀ f : CanFrame, unpackItem (packItem f) = f) ∧
  (∀ f g : CanFrame, packItem f = packItem g → f = g) ∧
  (∀ it : CanQueueItem, packItem (unpackItem it) = it ↔ (it[6] = 0 ∨ it[6] = 1) ∧ it[7] = 0) ∧
  (∀ it : CanQueueItem,
    packItem (unpackItem it) = (it.set 6 (if it[6] = 0 then 0 else 1)).set 7 0) ∧
  ∀ (f : CanFrame) (it : CanQueueItem) (s : State),
    exec (.pack f) s = .next { s with response := .item (packItem f) } ∧
    exec (.unpack it) s = .next { s with response := .frame (unpackItem it) }

/-! ### Dispatch -/

/-- 42_codec_dispatch.md R123: DISPATCH of every frame, as its pseudocode says it. -/
def Obligations.DispatchByIdentifier : Prop :=
  (∀ p : Ports, p.op = 0x6#4 → receivedFrame (decode p) = some (frameOfBits p.frame)) ∧
  ∀ (f : CanFrame) (s : State), exec (.dispatch f) s = .next
    { s with
      record :=
        if 8 < f.dlc.toNat then s.record
        else if Config.installed.dlcMinCheck = true ∧
            f.dlc.toNat < (if f.id = 0x20#32 then 1 else 2) then s.record
        else if f.id = 0x20#32 then { s.record with prechargeAck := f.data[0] }
        else if f.id = 0x100#32 then
          { s.record with dcBusV := BitVec.ofNat 16 (f.data[0].toNat + 256 * f.data[1].toNat) }
        else if f.id = 0x101#32 then
          { s.record with acc1 := BitVec.ofNat 16 (f.data[0].toNat + 256 * f.data[1].toNat) }
        else if f.id = 0x102#32 then
          { s.record with acc2 := BitVec.ofNat 16 (f.data[0].toNat + 256 * f.data[1].toNat) }
        else if f.id = 0x103#32 then
          { s.record with brake := BitVec.ofNat 16 (f.data[0].toNat + 256 * f.data[1].toNat) }
        else if f.id = 0x12C#32 then
          { s.record with minCellV := BitVec.ofNat 16 (256 * f.data[0].toNat + f.data[1].toNat) }
        else s.record
      response := .empty }

/-- The DISPATCH command on the port (op 0x6, R70, R123) runs DISPATCH of the frame on `frame_in`, whichever
constructor its identifier decodes to (log entry 7). -/
def Obligations.DispatchCommandOnPort : Prop :=
  ∀ (s : State) (p : Ports) (rest : List PortInput),
    s.inputs = .command p :: rest → p.op = 0x6#4 →
    step s = exec (.dispatch (frameOfBits p.frame)) { s with inputs := rest }

/-- 42_codec_dispatch.md R125 to R130: what each row of the dispatch map writes, for every frame: its whole
field and nothing else where the DLC is taken (R131, R132), else nothing. -/
def Obligations.DispatchRowsWriteTheirField : Prop :=
  ∀ (g : RxFrame) (s : State),
    (∃ t, exec (.rxPrechargeAck g) s = .next t ∧
      (DlcTaken Config.installed 1 g.dlc →
        t = { s with record := { s.record with prechargeAck := g.data[0] }, response := .empty }) ∧
      (¬DlcTaken Config.installed 1 g.dlc → t = { s with response := .empty })) ∧
    (∃ t, exec (.rxDcBusV g) s = .next t ∧
      (DlcTaken Config.installed 2 g.dlc → ∃ v : Half,
        v.toNat = g.data[0].toNat + 256 * g.data[1].toNat ∧
        t = { s with record := { s.record with dcBusV := v }, response := .empty }) ∧
      (¬DlcTaken Config.installed 2 g.dlc → t = { s with response := .empty })) ∧
    (∃ t, exec (.rxAcc1 g) s = .next t ∧
      (DlcTaken Config.installed 2 g.dlc → ∃ v : Half,
        v.toNat = g.data[0].toNat + 256 * g.data[1].toNat ∧
        t = { s with record := { s.record with acc1 := v }, response := .empty }) ∧
      (¬DlcTaken Config.installed 2 g.dlc → t = { s with response := .empty })) ∧
    (∃ t, exec (.rxAcc2 g) s = .next t ∧
      (DlcTaken Config.installed 2 g.dlc → ∃ v : Half,
        v.toNat = g.data[0].toNat + 256 * g.data[1].toNat ∧
        t = { s with record := { s.record with acc2 := v }, response := .empty }) ∧
      (¬DlcTaken Config.installed 2 g.dlc → t = { s with response := .empty })) ∧
    (∃ t, exec (.rxBrake g) s = .next t ∧
      (DlcTaken Config.installed 2 g.dlc → ∃ v : Half,
        v.toNat = g.data[0].toNat + 256 * g.data[1].toNat ∧
        t = { s with record := { s.record with brake := v }, response := .empty }) ∧
      (¬DlcTaken Config.installed 2 g.dlc → t = { s with response := .empty })) ∧
    (∃ t, exec (.rxMinCellV g) s = .next t ∧
      (DlcTaken Config.installed 2 g.dlc → ∃ v : Half,
        v.toNat = 256 * g.data[0].toNat + g.data[1].toNat ∧
        t = { s with record := { s.record with minCellV := v }, response := .empty }) ∧
      (¬DlcTaken Config.installed 2 g.dlc → t = { s with response := .empty }))

/-- 42_codec_dispatch.md R131: an out-of-range DLC or an unknown identifier changes no state element and
gives no response. -/
def Obligations.IgnoredFramesChangeNothing : Prop :=
  ∀ (f : CanFrame) (s : State),
    (8 < f.dlc.toNat ∨
      (f.id ≠ 0x20#32 ∧ f.id ≠ 0x100#32 ∧ f.id ≠ 0x101#32 ∧ f.id ≠ 0x102#32 ∧ f.id ≠ 0x103#32 ∧
        f.id ≠ 0x12C#32)) →
    exec (.dispatch f) s = .next { s with response := .empty }

/-- 42_codec_dispatch.md R132, under every configuration: without the check a known identifier writes its
field for every DLC from 0 to 8; with it, a DLC below the field's bytes is ignored. -/
def Obligations.ShortDlcFollowsParameter : Prop :=
  ∀ (cfg : Config) (f : CanFrame) (row : DispatchRow) (r : VehicleInputs),
    f.id = row.id → f.dlc.toNat ≤ 8 →
    (cfg.dlcMinCheck = false → dispatchFrame cfg f r = assignRow row f.data r) ∧
    (cfg.dlcMinCheck = true →
      (f.dlc.toNat < (if f.id = 0x20#32 then 1 else 2) → dispatchFrame cfg f r = r) ∧
      ((if f.id = 0x20#32 then 1 else 2) ≤ f.dlc.toNat →
        dispatchFrame cfg f r = assignRow row f.data r))

/-- 30_encoding.md R82: neither the bus tag nor the frame format is part of the dispatch key, and its two
examples: an extended frame updates `acc1`, a dashboard frame updates `brake`. -/
def Obligations.DispatchKeyIsIdentifier : Prop :=
  (∀ (f : CanFrame) (bus : Byte) (ext : Bool) (s : State),
    exec (.dispatch { f with bus := bus, ext := ext }) s = exec (.dispatch f) s) ∧
  ∀ (f : CanFrame) (s : State), 2 ≤ f.dlc.toNat → f.dlc.toNat ≤ 8 →
    (f.id = 0x101#32 → f.ext = true → ∃ t, exec (.dispatch f) s = .next t ∧
      t.record.acc1.toNat = f.data[0].toNat + 256 * f.data[1].toNat) ∧
    (f.id = 0x103#32 → f.bus = 3 → ∃ t, exec (.dispatch f) s = .next t ∧
      t.record.brake.toNat = f.data[0].toNat + 256 * f.data[1].toNat)

/-- 42_codec_dispatch.md R133: RXITEM is UNPACK then DISPATCH of its result, made indivisible; bytes 0, 6 and
7 of the item never matter. -/
def Obligations.RxitemIsUnpackThenDispatch : Prop :=
  (∀ p : Ports, p.op = 0x7#4 → decode p = .rxitem (itemOfBits p.item)) ∧
  (∀ (it : CanQueueItem) (s : State), ∃ t u f,
    exec (.rxitem it) s = .next t ∧ exec (.unpack it) s = .next u ∧ u.response = .frame f ∧
    exec (.dispatch f) u = .next t ∧ t.response = .empty ∧ t.latch = s.latch ∧ t.fsm = s.fsm ∧
    t.r2dT0 = s.r2dT0 ∧ t.inputs = s.inputs) ∧
  (∀ (it : CanQueueItem) (b0 b6 b7 : Byte) (s : State),
    exec (.rxitem (((it.set 0 b0).set 6 b6).set 7 b7)) s = exec (.rxitem it) s) ∧
  ∀ (it : CanQueueItem) (s : State), 8 < it[5].toNat →
    exec (.rxitem it) s = .next { s with response := .empty }

/-- 30_encoding.md R92: what the pseudo-commands expand to, as instructions and from their lines of text,
which stand on the port as commands of SET_START and DISPATCH. The lines have one space between the words;
what else a line may hold is log entry 12. The last clause, what the expansions write, is no part of R92: it
is derived from R123, R127 and R130. -/
def Obligations.PseudoCommandsExpand : Prop :=
  (pressButton = .setStart true ∧ releaseButton = .setStart false ∧
    ∀ (id : Word) (v : Half), ∃ lo hi : Byte, lo.toNat = v.toNat % 256 ∧ hi.toNat = v.toNat / 256 ∧
      rx16 id v = .dispatch
        { bus := 1, id := id, dlc := 2, ext := false, data := #v[lo, hi, 0, 0, 0, 0, 0, 0] } ∧
      rxBe16 id v = .dispatch
        { bus := 1, id := id, dlc := 2, ext := false, data := #v[hi, lo, 0, 0, 0, 0, 0, 0] }) ∧
  (∃ p q, assemble ["PRESS".toList, "RELEASE".toList] = some [.command p, .command q] ∧
    p.op = 0x3#4 ∧ decode p = .setStart true ∧ q.op = 0x3#4 ∧ decode q = .setStart false) ∧
  (∀ (idText vText : List Char) (id : Word) (v : Half),
    numeralOf 32 idText = some id → numeralOf 16 vText = some v →
    ∃ (p q : Ports) (lo hi : Byte), lo.toNat = v.toNat % 256 ∧ hi.toNat = v.toNat / 256 ∧
      assemble ["RX16 ".toList ++ idText ++ ' ' :: vText] = some [.command p] ∧ p.op = 0x6#4 ∧
      frameOfBits p.frame =
        { bus := 1, id := id, dlc := 2, ext := false, data := #v[lo, hi, 0, 0, 0, 0, 0, 0] } ∧
      assemble ["RXBE16 ".toList ++ idText ++ ' ' :: vText] = some [.command q] ∧ q.op = 0x6#4 ∧
      frameOfBits q.frame =
        { bus := 1, id := id, dlc := 2, ext := false, data := #v[hi, lo, 0, 0, 0, 0, 0, 0] }) ∧
  ∀ (v : Half) (s : State),
    exec (rx16 0x101#32 v) s = .next { s with record := { s.record with acc1 := v }, response := .empty } ∧
    exec (rxBe16 0x12C#32 v) s =
      .next { s with record := { s.record with minCellV := v }, response := .empty }

/-! ### Torque safety engine -/

/-- 43_torque_safety.md R150: the function `tse`, in the order of its composition, and what it reads. -/
def Obligations.TseComposition : Prop :=
  (∀ (cfg : Config) (r : VehicleInputs) (latch : Bool) (p1 p2 m t : Nat) (latch' : Bool),
    p1 = (cfg.cal1 r.acc1).val → p2 = (cfg.cal2 r.acc2).val →
    m = (if p1 > 8 ∧ p2 > 8 then (p1 + p2) / 2 else 0) →
    t = (if m < 10 then 0 else if m > 90 then 100 else m) →
    latch' = (if r.brake.toNat > cfg.brakeThr.toNat ∧ t > 25 then true
      else if r.brake.toNat < cfg.brakeThr.toNat ∧ t < 5 then false else latch) →
    computedTorque cfg r = t ∧ tseLatch cfg r latch = latch' ∧
    (tseReply cfg r latch).pct.toNat = (if latch' = true then 0 else t) ∧
    (tseReply cfg r latch).ev23 = latch' ∧ (tseReply cfg r latch).t1189 = false) ∧
  ∀ (cfg : Config) (r q : VehicleInputs) (latch : Bool),
    r.acc1 = q.acc1 → r.acc2 = q.acc2 → r.brake = q.brake →
    tseReply cfg r latch = tseReply cfg q latch ∧ tseLatch cfg r latch = tseLatch cfg q latch

/-- 43_torque_safety.md R152: the gate, the floored mean, the deadband, the range of the computed torque. -/
def Obligations.ComputedTorqueRange : Prop :=
  ∀ (cfg : Config) (r : VehicleInputs), TorqueRange (computedTorque cfg r) ∧
    ((pct1 cfg r ≤ 8 ∨ pct2 cfg r ≤ 8) → computedTorque cfg r = 0) ∧
    (8 < pct1 cfg r → 8 < pct2 cfg r →
      ((pct1 cfg r + pct2 cfg r) / 2 < 10 → computedTorque cfg r = 0) ∧
      (90 < (pct1 cfg r + pct2 cfg r) / 2 → computedTorque cfg r = 100) ∧
      (10 ≤ (pct1 cfg r + pct2 cfg r) / 2 → (pct1 cfg r + pct2 cfg r) / 2 ≤ 90 →
        computedTorque cfg r = (pct1 cfg r + pct2 cfg r) / 2))

/-- 43_torque_safety.md R153: SET, CLEAR and unchanged, which exclude each other. -/
def Obligations.LatchUpdateRule : Prop :=
  ∀ (cfg : Config) (r : VehicleInputs) (latch : Bool),
    (cfg.brakeThr.toNat < r.brake.toNat → 25 < computedTorque cfg r → tseLatch cfg r latch = true) ∧
    (r.brake.toNat < cfg.brakeThr.toNat → computedTorque cfg r < 5 → tseLatch cfg r latch = false) ∧
    (¬(cfg.brakeThr.toNat < r.brake.toNat ∧ 25 < computedTorque cfg r) →
      ¬(r.brake.toNat < cfg.brakeThr.toNat ∧ computedTorque cfg r < 5) → tseLatch cfg r latch = latch) ∧
    ¬((cfg.brakeThr.toNat < r.brake.toNat ∧ 25 < computedTorque cfg r) ∧
      (r.brake.toNat < cfg.brakeThr.toNat ∧ computedTorque cfg r < 5)) ∧
    (r.brake = cfg.brakeThr → tseLatch cfg r latch = latch) ∧
    (computedTorque cfg r < 5 ↔ computedTorque cfg r = 0)

/-- 43_torque_safety.md R154: the output is forced to 0 while the latch is set, on the setting call too. -/
def Obligations.LatchForcesTorque : Prop :=
  ∀ (cfg : Config) (r : VehicleInputs) (latch : Bool),
    (tseLatch cfg r latch = true → (tseReply cfg r latch).pct = 0) ∧
    (tseLatch cfg r latch = false → (tseReply cfg r latch).pct.toNat = computedTorque cfg r) ∧
    (tseReply cfg r latch).ev23 = tseLatch cfg r latch ∧
    (latch = true → tseLatch cfg r latch = false → (tseReply cfg r latch).pct = 0)

/-- 43_torque_safety.md R155: the range of the torque, and what a torque above 0 implies. -/
def Obligations.TorqueResultRange : Prop :=
  ∀ (cfg : Config) (r : VehicleInputs) (latch : Bool),
    TorqueRange (tseReply cfg r latch).pct.toNat ∧ (tseReply cfg r latch).pct.toNat ≤ 100 ∧
    (0 < (tseReply cfg r latch).pct.toNat →
      tseLatch cfg r latch = false ∧ 8 < pct1 cfg r ∧ 8 < pct2 cfg r)

/-- 43_torque_safety.md R160: COMPUTE_TORQUE writes LATCH and no REC field, and a second call with no REC
write between them responds the same. -/
def Obligations.ComputeTorqueUpdatesLatch : Prop :=
  (∀ p : Ports, p.op = 0x8#4 → decode p = .computeTorque) ∧
  (∀ s : State, exec .computeTorque s = .next
    { s with
      latch := tseLatch Config.installed s.record s.latch
      response := .torque (tseReply Config.installed s.record s.latch) }) ∧
  (∀ s t u : State, exec .computeTorque s = .next t → u.record = t.record → u.latch = t.latch →
    ∃ v, exec .computeTorque u = .next v ∧ v.response = t.response ∧ v.latch = t.latch) ∧
  ∀ s : State, s.record.acc1 = 4095 → s.record.acc2 = 4095 → s.record.brake = 4095 → s.latch = false →
    (s.computeTorque cfg0).response = .torque { pct := 0, ev23 := true, t1189 := false } ∧
    (s.computeTorque cfg0).latch = true

/-- 43_torque_safety.md R156, the call that sets the latch, under every configuration. -/
def Obligations.SettingCallCutsTorque : Prop :=
  ∀ (cfg : Config) (s : State) (now : Word),
    cfg.brakeThr.toNat < s.record.brake.toNat → 25 < computedTorque cfg s.record →
    (s.computeTorque cfg).latch = true ∧
    (s.computeTorque cfg).response = .torque { pct := 0, ev23 := true, t1189 := false } ∧
    (s.controlTick cfg now).latch = true ∧ (s.controlTick cfg now).record.torque = 0 ∧
    (s.controlTick cfg now).record.ev23 = true

/-- 43_torque_safety.md R156, R252: once set, the latch cuts the torque that COMPUTE_TORQUE and STEP return
over any number of steps, whatever the host presents, as long as no call sees the clear condition and the
block is not reset. The payload clause of `Response.Cut` rests on R85 and R188 as well; SNAPSHOT and TLM_BUILD
respond the record, whose torque is that of the last STEP, and are not restricted. What the host presents,
the response field and the place of the reset input are log entries 2, 3 and 4. -/
def Obligations.LatchPersistsOverRuns : Prop :=
  ∀ (n : Nat) (s t : State), s.latch = true → s.response.Cut → Unreleased Config.installed n s t →
    t.latch = true ∧ t.response.Cut

/-- 43_torque_safety.md R161: the §8 scenarios of the torque engine hold in a conformant configuration. -/
def Obligations.ConformantScenarios : Prop :=
  ∀ cfg : Config, Conformant cfg →
    (∀ b : Half, b.toNat < cfg.brakeThr.toNat →
      (tseReply cfg { VehicleInputs.zero with acc1 := 2048, acc2 := 2048, brake := b } false).ev23 = false ∧
      30 ≤ (tseReply cfg { VehicleInputs.zero with acc1 := 2048, acc2 := 2048, brake := b } false).pct.toNat ∧
      (tseReply cfg { VehicleInputs.zero with acc1 := 2048, acc2 := 2048, brake := b } false).pct.toNat
        ≤ 70) ∧
    (tseReply cfg VehicleInputs.zero false).pct = 0 ∧
    (tseReply cfg { VehicleInputs.zero with acc1 := 4095, acc2 := 4095 } false).pct = 100 ∧
    tseReply cfg { VehicleInputs.zero with acc1 := 4095, acc2 := 4095, brake := 4095 } false =
      { pct := 0, ev23 := true, t1189 := false }

/-! ### Control state machine -/

/-- 44_control_fsm.md R180 with R189: everything a STEP does, as its pseudocode says it, and what it leaves
unchanged; the zero frame of the unused slots (30_encoding.md R84). -/
def Obligations.StepRunsControlTick : Prop :=
  zeroFrame = { bus := 0, id := 0, dlc := 0, ext := false, data := #v[0, 0, 0, 0, 0, 0, 0, 0] } ∧
  (∀ p : Ports, p.op = 0x9#4 → decode p = .step p.now) ∧
  ∀ (now : Word) (s : State) (tq : TorqueReply) (latch' : Bool),
    tq = tseReply Config.installed s.record s.latch →
    latch' = tseLatch Config.installed s.record s.latch →
    exec (.step now) s = .next
      { s with
        record := { s.record with torque := tq.pct, ev23 := latch', t1189 := false }
        latch := latch'
        fsm :=
          if s.fsm = .boot then
            if s.record.prechargeAck ≠ 0 then .waitStartBrake else .waitPrechargeAck
          else if s.fsm = .waitPrechargeAck then
            if s.record.prechargeAck ≠ 0 then .waitStartBrake else .waitPrechargeAck
          else if s.fsm = .waitStartBrake then
            if s.record.startBtn = true ∧ Config.installed.brakeThr.toNat < s.record.brake.toNat then
              .r2dDelay
            else .waitStartBrake
          else if s.fsm = .r2dDelay then
            if 2000 ≤ (now.toNat + 2 ^ 32 - s.r2dT0.toNat) % 2 ^ 32 then .ready else .r2dDelay
          else .run
        r2dT0 :=
          if s.fsm = .waitStartBrake ∧ s.record.startBtn = true ∧
              Config.installed.brakeThr.toNat < s.record.brake.toNat then now
          else s.r2dT0
        response := .control
          (if s.fsm = .run then
            { count := 1, torque := tq.pct
              frames := #v[invCmdFrame Config.installed tq.pct, zeroFrame, zeroFrame, zeroFrame, zeroFrame,
                zeroFrame, zeroFrame, zeroFrame] }
          else { count := 0, frames := Vector.replicate 8 zeroFrame, torque := tq.pct }) }

/-- 30_encoding.md R85: the inverter command frame, for every configuration. -/
def Obligations.InverterCommandFrame : Prop :=
  ∀ (cfg : Config) (tq : Byte),
    (invCmdFrame cfg tq).bus = 1 ∧ (invCmdFrame cfg tq).id = cfg.invCmdId ∧
    (invCmdFrame cfg tq).dlc.toNat = cfg.invCmdDlc.val ∧ (invCmdFrame cfg tq).ext = cfg.invCmdExt ∧
    ∀ (k : Nat) (h : k < 8),
      (invCmdFrame cfg tq).data[k] = (if k = cfg.invCmdByte.val then tq else 0)

/-- 44_control_fsm.md R184, under every configuration: both conditions in the same tick, and the time of that
tick becomes the R2D origin. -/
def Obligations.StartNeedsButtonAndBrake : Prop :=
  (∀ (now : Word) (s : State), exec (.step now) s = .next (s.controlTick Config.installed now)) ∧
  ∀ (cfg : Config) (now : Word) (s : State), s.fsm = .waitStartBrake →
    (s.record.startBtn = true ∧ cfg.brakeThr.toNat < s.record.brake.toNat →
      (s.controlTick cfg now).fsm = .r2dDelay ∧ (s.controlTick cfg now).r2dT0 = now) ∧
    (¬(s.record.startBtn = true ∧ cfg.brakeThr.toNat < s.record.brake.toNat) →
      (s.controlTick cfg now).fsm = .waitStartBrake ∧ (s.controlTick cfg now).r2dT0 = s.r2dT0) ∧
    (s.record.brake = cfg.brakeThr → (s.controlTick cfg now).fsm = .waitStartBrake)

/-- 44_control_fsm.md R185: the R2D delay on the wrapping difference of the two times, for every pair of them;
and on a host that meets its duty for time (R181, D30): on ideal times in
milliseconds, READY is entered exactly from 2000 ms after the R2D entry on, across the 32-bit wrap. -/
def Obligations.R2dDelayOnHostTime : Prop :=
  (∀ (now : Word) (s : State), s.fsm = .r2dDelay → ∃ t, exec (.step now) s = .next t ∧
    t.fsm = (if 2000 ≤ (now.toNat + 2 ^ 32 - s.r2dT0.toNat) % 2 ^ 32 then .ready else .r2dDelay)) ∧
  ∀ (entry time : Nat) (s : State), HostDuty entry time → s.fsm = .r2dDelay →
    s.r2dT0 = BitVec.ofNat 32 entry →
    ∃ t, exec (.step (BitVec.ofNat 32 time)) s = .next t ∧ t.r2dT0 = s.r2dT0 ∧
      (2000 ≤ time - entry → t.fsm = .ready) ∧ (time - entry < 2000 → t.fsm = .r2dDelay)

/-- 44_control_fsm.md R190: one STEP takes at most one transition, along an edge of the machine. -/
def Obligations.OneTransitionPerTick : Prop :=
  ∀ (now : Word) (s : State), ∃ t, exec (.step now) s = .next t ∧
    ((s.fsm = .boot ∧ (t.fsm = .waitPrechargeAck ∨ t.fsm = .waitStartBrake)) ∨
     (s.fsm = .waitPrechargeAck ∧ (t.fsm = .waitPrechargeAck ∨ t.fsm = .waitStartBrake)) ∨
     (s.fsm = .waitStartBrake ∧ (t.fsm = .waitStartBrake ∨ t.fsm = .r2dDelay)) ∨
     (s.fsm = .r2dDelay ∧ (t.fsm = .r2dDelay ∨ t.fsm = .ready)) ∨
     (s.fsm = .ready ∧ t.fsm = .run) ∨ (s.fsm = .run ∧ t.fsm = .run))

/-- 44_control_fsm.md R188: one inverter frame exactly in RUN, none in any other state, and the append rule of
the batch; every slot from the count on is the all-zero frame of 30_encoding.md R84, field by field. -/
def Obligations.FramesOnlyInRun : Prop :=
  (∀ (now : Word) (s : State), ∃ t o, exec (.step now) s = .next t ∧ t.response = .control o ∧
    o.torque = (tseReply Config.installed s.record s.latch).pct ∧
    (s.fsm = .run → o.count = 1 ∧ o.frames[0] = invCmdFrame Config.installed o.torque) ∧
    (s.fsm ≠ .run → o.count = 0) ∧
    ∀ (k : Nat) (h : k < 8), o.count.val ≤ k → o.frames[k].bus = 0 ∧ o.frames[k].id = 0 ∧
      o.frames[k].dlc = 0 ∧ o.frames[k].ext = false ∧
      ∀ (j : Nat) (hj : j < 8), o.frames[k].data[j] = 0) ∧
  ∀ (o : ControlOutput) (f : CanFrame),
    (o.count.val < 8 → (o.append f).count.val = o.count.val + 1 ∧
      ∀ (k : Nat) (h : k < 8), (o.append f).frames[k] = (if k = o.count.val then f else o.frames[k])) ∧
    (o.count.val = 8 → o.append f = o)

/-- 44_control_fsm.md R192, R193: from BOOT with the guards met, four STEPs reach RUN, the third of them at
least 2000 ms after the second, under every configuration. -/
def Obligations.StartupReachesRun : Prop :=
  ∀ (cfg : Config) (s : State) (n0 n1 n2 n3 : Word),
    s.fsm = .boot → s.record.prechargeAck ≠ 0 → s.record.startBtn = true →
    cfg.brakeThr.toNat < s.record.brake.toNat → 2000 ≤ (n2 - n1).toNat →
    (s.controlTick cfg n0).fsm = .waitStartBrake ∧
    ((s.controlTick cfg n0).controlTick cfg n1).fsm = .r2dDelay ∧
    (((s.controlTick cfg n0).controlTick cfg n1).controlTick cfg n2).fsm = .ready ∧
    ((((s.controlTick cfg n0).controlTick cfg n1).controlTick cfg n2).controlTick cfg n3).fsm = .run ∧
    ((((s.controlTick cfg n0).controlTick cfg n1).controlTick cfg n2).controlTick cfg n3).r2dT0 = n1

/-- 44_control_fsm.md R192: with the acknowledge at 0 the machine waits in WAIT_PRECHARGE_ACK over any number
of ticks. -/
def Obligations.WaitsForPrecharge : Prop :=
  ∀ (times : List Word) (cfg : Config) (s : State),
    s.fsm = .boot ∨ s.fsm = .waitPrechargeAck → s.record.prechargeAck = 0 → times ≠ [] →
    (times.foldl (fun u now => u.controlTick cfg now) s).fsm = .waitPrechargeAck

/-- 44_control_fsm.md R187: RUN is left by hardware reset only (the reset input stands in the list of log
entries 2 and 4). -/
def Obligations.RunLeftOnlyByReset : Prop :=
  ∀ s t : State, s.fsm = .run → step s = .next t → t.fsm = .run ∨ s.atReset = true

/-! ### Telemetry -/

/-- 45_telemetry.md R210: the bytes of the status frame, two of them 0 in every reachable state (by the
invariant on the record); no state is written. -/
def Obligations.TelemetryStatusFrame : Prop :=
  (∀ p : Ports, p.op = 0xA#4 → decode p = .tlmBuild) ∧
  ∀ s : State, ∃ b : TlmFrame, exec .tlmBuild s = .next { s with response := .telemetry b } ∧
    b[0] = s.record.invState ∧ b[1] = s.record.torque ∧
    b[2].toNat = s.record.dcBusV.toNat % 256 ∧ b[3].toNat = s.record.dcBusV.toNat / 256 ∧
    b[4].toNat = s.record.minCellV.toNat % 256 ∧ b[5].toNat = s.record.minCellV.toNat / 256 ∧
    b[6].toNat = s.record.acc1.toNat % 256 ∧ b[7].toNat = s.record.acc1.toNat / 256 ∧
    b[8].toNat = s.record.acc2.toNat % 256 ∧ b[9].toNat = s.record.acc2.toNat / 256 ∧
    b[10].toNat = s.record.brake.toNat % 256 ∧ b[11].toNat = s.record.brake.toNat / 256 ∧
    b[12] = (if s.record.ev23 = true then 1 else 0) ∧ b[13] = (if s.record.t1189 = true then 1 else 0) ∧
    b[14] = s.record.prechargeAck ∧ b[15] = (if s.record.startBtn = true then 1 else 0) ∧
    (∀ (k : Nat) (h : k < 32), 16 ≤ k → b[k] = 0) ∧
    (s.record.Inv → b[0] = 0 ∧ b[13] = 0)

/-- 90_conflicts.md C3: the cell voltage arrives big-endian and leaves little-endian. -/
def Obligations.CellVoltageChangesByteOrder : Prop :=
  ∀ (g : RxFrame) (s : State), DlcTaken Config.installed 2 g.dlc →
    ∃ t u b, exec (.rxMinCellV g) s = .next t ∧ exec .tlmBuild t = .next u ∧ u.response = .telemetry b ∧
      b[4] = g.data[1] ∧ b[5] = g.data[0]

/-! ### Refusals, completion, whole-machine rules -/

/-- 30_encoding.md R88, 60_exceptions.md R232: a command with a reserved op is refused, on every path of the
three rows. That the refusal is answered by `exec` of a reserved row, and that it carries the op, is the
model's choice, log entry 6; what the host presents stands in the list of log entry 2. -/
def Obligations.ReservedOpsRefused : Prop :=
  (∀ s : State, exec .reserved0 s = .refused (.reservedOp 0x0#4)) ∧
  (∀ s : State, exec .reservedB s = .refused (.reservedOp 0xB#4)) ∧
  (∀ (low : BitVec 2) (s : State), exec (.reservedC low) s = .refused (.reservedOp (0x3#2 ++ low))) ∧
  ∀ (s : State) (p : Ports) (rest : List PortInput),
    s.inputs = .command p :: rest → p.op = 0x0#4 ∨ 0xB ≤ p.op.toNat →
    step s = .refused (.reservedOp p.op)

/-- Derived from 60_exceptions.md R230: every command with a non-reserved op answers a next state, for every
operand value; which one, the statements about each command say. That no step faults rests on the model's
empty type of faults, log entry 11; what the host presents stands in the list of log entry 2. -/
def Obligations.DefinedCommandsComplete : Prop :=
  (∀ (s : State) (r : Fault), step s ≠ .fault r) ∧
  (∀ (i : Instr) (s : State), reservedRow i = false → ∃ t, exec i s = .next t) ∧
  ∀ (s : State) (p : Ports) (rest : List PortInput),
    s.inputs = .command p :: rest → 1 ≤ p.op.toNat → p.op.toNat ≤ 0xA → ∃ t, step s = .next t

/-- 41_shared_state.md R103, with the writers of 10_state.md R20: no other command writes a REC field. -/
def Obligations.RecordWriters : Prop :=
  ∀ (i : Instr) (s t : State), exec i s = .next t →
    (t.record.acc1 = s.record.acc1 ∨ i = .init ∨ ∃ f, receivedFrame i = some f ∧ f.id = 0x101#32) ∧
    (t.record.acc2 = s.record.acc2 ∨ i = .init ∨ ∃ f, receivedFrame i = some f ∧ f.id = 0x102#32) ∧
    (t.record.brake = s.record.brake ∨ i = .init ∨ ∃ f, receivedFrame i = some f ∧ f.id = 0x103#32) ∧
    (t.record.dcBusV = s.record.dcBusV ∨ i = .init ∨ ∃ f, receivedFrame i = some f ∧ f.id = 0x100#32) ∧
    (t.record.minCellV = s.record.minCellV ∨ i = .init ∨
      ∃ f, receivedFrame i = some f ∧ f.id = 0x12C#32) ∧
    (t.record.prechargeAck = s.record.prechargeAck ∨ i = .init ∨
      ∃ f, receivedFrame i = some f ∧ f.id = 0x20#32) ∧
    (t.record.startBtn = s.record.startBtn ∨ i = .init ∨ ∃ b, i = .setStart b) ∧
    (t.record.invState = s.record.invState ∨ i = .init) ∧
    (t.record.invTemp0 = s.record.invTemp0 ∨ i = .init) ∧
    (t.record.invTemp1 = s.record.invTemp1 ∨ i = .init) ∧
    (t.record.invTemp2 = s.record.invTemp2 ∨ i = .init) ∧
    (t.record.invRpm = s.record.invRpm ∨ i = .init) ∧
    (t.record.ev23 = s.record.ev23 ∨ i = .init ∨ ∃ now, i = .step now) ∧
    (t.record.t1189 = s.record.t1189 ∨ i = .init ∨ ∃ now, i = .step now) ∧
    (t.record.torque = s.record.torque ∨ i = .init ∨ ∃ now, i = .step now)

/-- 10_state.md R29, R30, R31 and 43_torque_safety.md R159: which commands write LATCH, FSM and R2D_T0. -/
def Obligations.RegisterWriters : Prop :=
  ∀ (i : Instr) (s t : State), exec i s = .next t →
    (t.latch = s.latch ∨ (runsTse i = true ∧ t.latch = tseLatch Config.installed s.record s.latch)) ∧
    (t.fsm = s.fsm ∨ ∃ now, i = .step now) ∧
    (t.r2dT0 = s.r2dT0 ∨ ∃ now, i = .step now ∧ s.fsm = .waitStartBrake ∧ t.fsm = .r2dDelay ∧
      t.r2dT0 = now) ∧
    t.inputs = s.inputs

/-- 70_reset_and_hazards.md R252: INIT and reset differ; only reset leads back to BOOT, and only reset or the
clear condition releases the latch (what the host presents stands in the list of log entries 2 and 4). -/
def Obligations.OnlyResetOrClearReleases : Prop :=
  (∀ s : State, ∃ t, exec .init s = .next t ∧ t.record = VehicleInputs.zero ∧ t.latch = s.latch ∧
    t.fsm = s.fsm ∧ t.r2dT0 = s.r2dT0) ∧
  (∀ s : State, s.atReset = true → ∃ t, step s = .next t ∧ t.record = VehicleInputs.zero ∧
    t.latch = false ∧ t.fsm = .boot ∧ t.r2dT0 = 0) ∧
  (∀ s t : State, step s = .next t → s.fsm ≠ .boot → t.fsm = .boot → s.atReset = true) ∧
  ∀ s t : State, step s = .next t → s.latch = true → t.latch = false →
    s.atReset = true ∨ s.atClear Config.installed = true

/-- 20_memory.md R57: the commands that only read change no state element. -/
def Obligations.ReadersChangeNothing : Prop :=
  ∀ (i : Instr) (s : State),
    (i = .snapshot ∨ i = .tlmBuild ∨ (∃ f, i = .pack f) ∨ ∃ it, i = .unpack it) →
    ∃ v, exec i s = .next { s with response := v }

/-- The invariant of the machine. Of the record: the torque's range (10_state.md R27), T11.8.9 at 0 (R26), the
five fields without a writer at 0 (R24). Of the response, the model's field of log entry 3: an item as PACK
makes it (R120), a torque result in range, T11.8.9 at 0 and torque 0 with EV2.3 (R154, R155, R157), at most one
frame and zero frames after it (R84, R188), the bytes of the status frame (R87, R210). Every step keeps it,
from every state. -/
def Obligations.InvariantKeptByEveryStep : Prop :=
  ∀ s t : State, s.Inv → step s = .next t → t.Inv

/-- The invariant holds after reset, whose record is R35's and whose empty response is log entry 3. -/
def Obligations.InvariantAtReset : Prop :=
  State.reset.Inv

/-! ### Codes and syntax -/

/-- 10_state.md R30: the codes of the states, which differ and leave 6 and 7 unused. -/
def Obligations.FsmCodes : Prop :=
  FsmState.boot.code = 0 ∧ FsmState.waitPrechargeAck.code = 1 ∧ FsmState.waitStartBrake.code = 2 ∧
  FsmState.r2dDelay.code = 3 ∧ FsmState.ready.code = 4 ∧ FsmState.run.code = 5 ∧
  (∀ a b : FsmState, a.code = b.code → a = b) ∧ ∀ a : FsmState, a.code ≠ 6 ∧ a.code ≠ 7

/-- 30_encoding.md R91: its four example lines read as the commands they spell, and a comment line as none.
(The curly brackets of the DISPATCH line are written by their codes.) -/
def Obligations.ExampleLinesAssemble : Prop :=
  asmLine "STEP 2000".toList = some (.command (.step 2000)) ∧
  asmLine "SET_START 1".toList = some (.command (.setStart true)) ∧
  asmLine
      ("DISPATCH ".toList ++ [Char.ofNat 123] ++
        "bus=2, id=0x20, dlc=1, ext=0, data=[01 00 00 00 00 00 00 00]".toList ++ [Char.ofNat 125]) =
    some (.command (.dispatch
      { bus := 2, id := 0x20, dlc := 1, ext := false, data := #v[1, 0, 0, 0, 0, 0, 0, 0] })) ∧
  asmLine "RXITEM <02 20 00 00 00 01 00 00 01 00 00 00 00 00 00 00>".toList =
    some (.command (.rxitem #v[2, 0x20, 0, 0, 0, 1, 0, 0, 1, 0, 0, 0, 0, 0, 0, 0])) ∧
  asmLine "; a comment".toList = some .comment
end

