-- ==== Sys2Proof/Laws/Assembler.lean ====
section
/-! SUPPORT. What the token reader of the command syntax does with words and numerals (30_encoding.md R91). -/

namespace Sys2Proof.Machine

/-- A character that is part of a word: no blank and no punctuation. -/
def isWordChar (c : Char) : Bool := !isBlank c && !isPunctuation c

/-- Word characters collect onto the word read so far. -/
theorem tokensFrom_wordChars (cs word rest : List Char) (h : ∀ c ∈ cs, isWordChar c = true) :
    tokensFrom word (cs ++ rest) = tokensFrom (cs.reverse ++ word) rest := by
  induction cs generalizing word with
  | nil => rfl
  | cons c cs ih =>
    obtain ⟨hb, hp⟩ : isBlank c = false ∧ isPunctuation c = false := by
      simpa [isWordChar] using h c (by simp)
    simp only [List.cons_append, tokensFrom, hb, hp, Bool.false_eq_true, if_false]
    rw [ih _ fun d hd => h d (by simp [hd])]
    simp

/-- A word that a space ends is a token before the tokens of the rest. -/
theorem tokensFrom_word_space (cs rest : List Char) (hne : cs ≠ [])
    (h : ∀ c ∈ cs, isWordChar c = true) :
    tokensFrom [] (cs ++ ' ' :: rest) = cs :: tokensFrom [] rest := by
  rw [tokensFrom_wordChars _ _ _ h]
  simp [tokensFrom, isBlank, flushWord, hne]

/-- A word that ends the line is its only token. -/
theorem tokensFrom_word (cs : List Char) (hne : cs ≠ []) (h : ∀ c ∈ cs, isWordChar c = true) :
    tokensFrom [] cs = [cs] := by
  have := tokensFrom_wordChars cs [] [] h
  rw [List.append_nil] at this
  rw [this]
  simp [tokensFrom, flushWord, hne]

/-- A digit is a word character. -/
theorem isWordChar_of_digitValue (c : Char) (d : Nat) (h : digitValue c = some d) :
    isWordChar c = true := by
  simp only [digitValue] at h
  have hn : 48 ≤ c.toNat ∧ c.toNat ≤ 57 ∨ 65 ≤ c.toNat ∧ c.toNat ≤ 70 ∨ 97 ≤ c.toNat ∧ c.toNat ≤ 102 := by
    split_ifs at h <;> omega
  clear h
  simp [isWordChar, isBlank, isPunctuation]
  omega

/-- What a base reads as a number is made of word characters. -/
theorem isWordChar_of_digitsValue (base acc n : Nat) (cs : List Char)
    (h : digitsValue base acc cs = some n) : ∀ c ∈ cs, isWordChar c = true := by
  induction cs generalizing acc with
  | nil => simp
  | cons c cs ih =>
    simp only [digitsValue] at h
    split at h
    · rename_i d hd
      split at h
      · simpa [isWordChar_of_digitValue c d hd] using ih _ h
      · cases h
    · cases h

/-- A numeral is one word. -/
theorem numeralOf_isWord (w : Nat) (t : List Char) (v : BitVec w) (h : numeralOf w t = some v) :
    t ≠ [] ∧ ∀ c ∈ t, isWordChar c = true := by
  unfold numeralOf at h
  split at h
  · rename_i n hn
    unfold numeral at hn
    split at hn
    · cases hn
    · have := isWordChar_of_digitsValue _ _ _ _ hn
      refine ⟨by simp, fun c hc => ?_⟩
      rcases List.mem_cons.1 hc with rfl | hc
      · decide
      · rcases List.mem_cons.1 hc with rfl | hc
        · decide
        · exact this c hc
    · exact ⟨by simp, isWordChar_of_digitsValue _ _ _ _ hn⟩
  · cases h

end Sys2Proof.Machine
end

