-- ==== Sys2Proof/Laws/Bits.lean ====
section
/-! SUPPORT. What the lane and byte-assembly operations compute (30_encoding.md R74, R83; 00_scope.md R10). -/

namespace Sys2Proof

/-- Lane `k` of the number made of lanes is the list's element `k`. -/
theorem lanesToNat_lane {w : Nat} (l : List (BitVec w)) (k : Nat) (h : k < l.length) :
    lanesToNat l / 2 ^ (w * k) % 2 ^ w = (l[k]).toNat := by
  induction l generalizing k with
  | nil => simp at h
  | cons b l ih =>
    have hb : b.toNat < 2 ^ w := b.isLt
    have hpos : 0 < 2 ^ w := Nat.two_pow_pos w
    cases k with
    | zero =>
      simp [lanesToNat, Nat.mod_eq_of_lt hb]
    | succ k =>
      have hk : k < l.length := by simpa using h
      have : lanesToNat (b :: l) / 2 ^ w = lanesToNat l := by
        show (b.toNat + 2 ^ w * lanesToNat l) / 2 ^ w = _
        rw [Nat.add_mul_div_left _ _ hpos, Nat.div_eq_of_lt hb, Nat.zero_add]
      rw [Nat.mul_succ, Nat.add_comm, Nat.pow_add, ← Nat.div_div_eq_div_mul, this]
      simpa using ih k hk

/-- A vector on a port has lane `k` at bits [w*k+w-1 : w*k] (R74). -/
theorem laneOf_lanesToBits {w n : Nat} (v : Vector (BitVec w) n) (k : Nat) (h : k < n) :
    laneOf w (lanesToBits v) k = v[k] := by
  apply BitVec.eq_of_toNat_eq
  have hl : k < v.toList.length := by simpa using h
  have key := lanesToNat_lane v.toList k hl
  have hsplit : w * n = w * k + w * (n - k - 1) + w := by
    have : n = k + (n - k - 1) + 1 := by omega
    calc w * n = w * (k + (n - k - 1) + 1) := by rw [← this]
      _ = _ := by ring
  have hmod : ∀ m : Nat, m % 2 ^ (w * n) / 2 ^ (w * k) % 2 ^ w = m / 2 ^ (w * k) % 2 ^ w := by
    intro m
    have : w * n = w * k + (w * (n - k - 1) + w) := by omega
    rw [this, Nat.pow_add, Nat.mod_mul_right_div_self, Nat.mod_mod_of_dvd]
    exact Nat.pow_dvd_pow 2 (Nat.le_add_left _ _)
  simp only [laneOf, lanesToBits, BitVec.extractLsb'_toNat, BitVec.toNat_ofNat, Nat.shiftRight_eq_div_pow]
  rw [hmod, key]
  simp

/-- Byte `k` of a byte vector on a port (R74). -/
theorem laneOf_bytesToBits {n : Nat} (v : Vector Byte n) (k : Nat) (h : k < n) :
    laneOf 8 (bytesToBits v) k = v[k] := laneOf_lanesToBits v k h

/-- Byte `k` of the byte vector a port carries (R74). -/
theorem bytesOfBits_getElem {n : Nat} (x : BitVec (8 * n)) (k : Nat) (h : k < n) :
    (bytesOfBits x)[k] = laneOf 8 x k := by
  simp [bytesOfBits]

/-- A byte below a value: the number they make together. -/
theorem toNat_append_byte {n : Nat} (x : BitVec n) (b : Byte) :
    (x ++ b).toNat = b.toNat + 256 * x.toNat := by
  have := b.isLt
  rw [BitVec.toNat_append, Nat.shiftLeft_eq, Nat.mul_comm, ← Nat.two_pow_add_eq_or_of_lt this]
  omega

namespace Machine

/-- `le16(b0, b1) = b0 + 256*b1` (R10). -/
theorem le16_toNat (b0 b1 : Byte) : (le16 b0 b1).toNat = b0.toNat + 256 * b1.toNat :=
  toNat_append_byte b1 b0

/-- `be16(b0, b1) = 256*b0 + b1` (R10). -/
theorem be16_toNat (b0 b1 : Byte) : (be16 b0 b1).toNat = 256 * b0.toNat + b1.toNat := by
  rw [Nat.add_comm]
  exact toNat_append_byte b0 b1

/-- `le32(b0, b1, b2, b3) = b0 + 2^8*b1 + 2^16*b2 + 2^24*b3` (R10). -/
theorem le32_toNat (b0 b1 b2 b3 : Byte) :
    (le32 b0 b1 b2 b3).toNat =
      b0.toNat + 2 ^ 8 * b1.toNat + 2 ^ 16 * b2.toNat + 2 ^ 24 * b3.toNat := by
  have h1 : (b3 ++ b2).toNat = _ := toNat_append_byte b3 b2
  have h2 : (b3 ++ b2 ++ b1).toNat = _ := toNat_append_byte (b3 ++ b2) b1
  have h3 : (le32 b0 b1 b2 b3).toNat = _ := toNat_append_byte (b3 ++ b2 ++ b1) b0
  omega

/-- Byte `k` of a value, as a number (R53). -/
theorem byteOf_toNat {n : Nat} (x : BitVec n) (k : Nat) :
    (byteOf x k).toNat = x.toNat / 2 ^ (8 * k) % 256 := by
  simp [byteOf, laneOf, Nat.shiftRight_eq_div_pow]

/-- The low byte of an assembled little-endian field (R53). -/
@[simp] theorem byteOf_le16_zero (b0 b1 : Byte) : byteOf (le16 b0 b1) 0 = b0 := by
  apply BitVec.eq_of_toNat_eq
  have := b0.isLt
  simp only [byteOf, laneOf, BitVec.extractLsb'_toNat, le16_toNat, Nat.shiftRight_eq_div_pow]
  omega

/-- The high byte of an assembled little-endian field (R53). -/
@[simp] theorem byteOf_le16_one (b0 b1 : Byte) : byteOf (le16 b0 b1) 1 = b1 := by
  apply BitVec.eq_of_toNat_eq
  have := b0.isLt
  have := b1.isLt
  simp only [byteOf, laneOf, BitVec.extractLsb'_toNat, le16_toNat, Nat.shiftRight_eq_div_pow]
  omega

/-- A 16-bit value is the little-endian assembly of its two bytes (R53). -/
@[simp] theorem le16_byteOf (v : Half) : le16 (byteOf v 0) (byteOf v 1) = v := by
  apply BitVec.eq_of_toNat_eq
  rw [le16_toNat]
  have := v.isLt
  simp only [byteOf, laneOf, BitVec.extractLsb'_toNat, Nat.shiftRight_eq_div_pow]
  omega

end Machine

end Sys2Proof
end

