-- ==== Sys2Proof/Laws/State.lean ====
section
/-! SUPPORT. One lemma per field per update, so that no proof unfolds a record update. -/

namespace Sys2Proof.Machine

/-! ### Updates of the state (R11) -/

@[simp] theorem State.respond_record (s : State) (v : Response) :
    (s.respond v).record = s.record := rfl
@[simp] theorem State.respond_latch (s : State) (v : Response) :
    (s.respond v).latch = s.latch := rfl
@[simp] theorem State.respond_fsm (s : State) (v : Response) :
    (s.respond v).fsm = s.fsm := rfl
@[simp] theorem State.respond_r2dT0 (s : State) (v : Response) :
    (s.respond v).r2dT0 = s.r2dT0 := rfl
@[simp] theorem State.respond_response (s : State) (v : Response) :
    (s.respond v).response = v := rfl
@[simp] theorem State.respond_inputs (s : State) (v : Response) :
    (s.respond v).inputs = s.inputs := rfl

@[simp] theorem State.setRecord_record (s : State) (r : VehicleInputs) :
    (s.setRecord r).record = r := rfl
@[simp] theorem State.setRecord_latch (s : State) (r : VehicleInputs) :
    (s.setRecord r).latch = s.latch := rfl
@[simp] theorem State.setRecord_fsm (s : State) (r : VehicleInputs) :
    (s.setRecord r).fsm = s.fsm := rfl
@[simp] theorem State.setRecord_r2dT0 (s : State) (r : VehicleInputs) :
    (s.setRecord r).r2dT0 = s.r2dT0 := rfl
@[simp] theorem State.setRecord_response (s : State) (r : VehicleInputs) :
    (s.setRecord r).response = s.response := rfl
@[simp] theorem State.setRecord_inputs (s : State) (r : VehicleInputs) :
    (s.setRecord r).inputs = s.inputs := rfl

@[simp] theorem State.setLatch_record (s : State) (b : Bool) :
    (s.setLatch b).record = s.record := rfl
@[simp] theorem State.setLatch_latch (s : State) (b : Bool) :
    (s.setLatch b).latch = b := rfl
@[simp] theorem State.setLatch_fsm (s : State) (b : Bool) :
    (s.setLatch b).fsm = s.fsm := rfl
@[simp] theorem State.setLatch_r2dT0 (s : State) (b : Bool) :
    (s.setLatch b).r2dT0 = s.r2dT0 := rfl
@[simp] theorem State.setLatch_response (s : State) (b : Bool) :
    (s.setLatch b).response = s.response := rfl
@[simp] theorem State.setLatch_inputs (s : State) (b : Bool) :
    (s.setLatch b).inputs = s.inputs := rfl

@[simp] theorem State.setControl_record (s : State) (q : FsmState) (t0 : Word) :
    (s.setControl q t0).record = s.record := rfl
@[simp] theorem State.setControl_latch (s : State) (q : FsmState) (t0 : Word) :
    (s.setControl q t0).latch = s.latch := rfl
@[simp] theorem State.setControl_fsm (s : State) (q : FsmState) (t0 : Word) :
    (s.setControl q t0).fsm = q := rfl
@[simp] theorem State.setControl_r2dT0 (s : State) (q : FsmState) (t0 : Word) :
    (s.setControl q t0).r2dT0 = t0 := rfl
@[simp] theorem State.setControl_response (s : State) (q : FsmState) (t0 : Word) :
    (s.setControl q t0).response = s.response := rfl
@[simp] theorem State.setControl_inputs (s : State) (q : FsmState) (t0 : Word) :
    (s.setControl q t0).inputs = s.inputs := rfl

@[simp] theorem State.setInputs_record (s : State) (rest : List PortInput) :
    (s.setInputs rest).record = s.record := rfl
@[simp] theorem State.setInputs_latch (s : State) (rest : List PortInput) :
    (s.setInputs rest).latch = s.latch := rfl
@[simp] theorem State.setInputs_fsm (s : State) (rest : List PortInput) :
    (s.setInputs rest).fsm = s.fsm := rfl
@[simp] theorem State.setInputs_r2dT0 (s : State) (rest : List PortInput) :
    (s.setInputs rest).r2dT0 = s.r2dT0 := rfl
@[simp] theorem State.setInputs_response (s : State) (rest : List PortInput) :
    (s.setInputs rest).response = s.response := rfl
@[simp] theorem State.setInputs_inputs (s : State) (rest : List PortInput) :
    (s.setInputs rest).inputs = rest := rfl

/-! ### Hardware reset (R250) -/

@[simp] theorem State.hardReset_record (s : State) :
    (s.hardReset).record = VehicleInputs.zero := rfl
@[simp] theorem State.hardReset_latch (s : State) :
    (s.hardReset).latch = false := rfl
@[simp] theorem State.hardReset_fsm (s : State) :
    (s.hardReset).fsm = .boot := rfl
@[simp] theorem State.hardReset_r2dT0 (s : State) :
    (s.hardReset).r2dT0 = 0 := rfl
@[simp] theorem State.hardReset_response (s : State) :
    (s.hardReset).response = .empty := rfl
@[simp] theorem State.hardReset_inputs (s : State) :
    (s.hardReset).inputs = s.inputs := rfl

/-! ### Received frames (R123) -/

@[simp] theorem State.receive_record (s : State) (cfg : Config) (f : CanFrame) :
    (s.receive cfg f).record = dispatchFrame cfg f s.record := rfl
@[simp] theorem State.receive_latch (s : State) (cfg : Config) (f : CanFrame) :
    (s.receive cfg f).latch = s.latch := rfl
@[simp] theorem State.receive_fsm (s : State) (cfg : Config) (f : CanFrame) :
    (s.receive cfg f).fsm = s.fsm := rfl
@[simp] theorem State.receive_r2dT0 (s : State) (cfg : Config) (f : CanFrame) :
    (s.receive cfg f).r2dT0 = s.r2dT0 := rfl
@[simp] theorem State.receive_response (s : State) (cfg : Config) (f : CanFrame) :
    (s.receive cfg f).response = .empty := rfl
@[simp] theorem State.receive_inputs (s : State) (cfg : Config) (f : CanFrame) :
    (s.receive cfg f).inputs = s.inputs := rfl

@[simp] theorem State.receiveRow_record (s : State) (cfg : Config) (row : DispatchRow) (g : RxFrame) :
    (s.receiveRow cfg row g).record = dispatchRow cfg row g.dlc g.data s.record := rfl
@[simp] theorem State.receiveRow_latch (s : State) (cfg : Config) (row : DispatchRow) (g : RxFrame) :
    (s.receiveRow cfg row g).latch = s.latch := rfl
@[simp] theorem State.receiveRow_fsm (s : State) (cfg : Config) (row : DispatchRow) (g : RxFrame) :
    (s.receiveRow cfg row g).fsm = s.fsm := rfl
@[simp] theorem State.receiveRow_r2dT0 (s : State) (cfg : Config) (row : DispatchRow) (g : RxFrame) :
    (s.receiveRow cfg row g).r2dT0 = s.r2dT0 := rfl
@[simp] theorem State.receiveRow_response (s : State) (cfg : Config) (row : DispatchRow) (g : RxFrame) :
    (s.receiveRow cfg row g).response = .empty := rfl
@[simp] theorem State.receiveRow_inputs (s : State) (cfg : Config) (row : DispatchRow) (g : RxFrame) :
    (s.receiveRow cfg row g).inputs = s.inputs := rfl

/-! ### COMPUTE_TORQUE (R160) and STEP (R180) -/

@[simp] theorem State.computeTorque_record (s : State) (cfg : Config) :
    (s.computeTorque cfg).record = s.record := rfl
@[simp] theorem State.computeTorque_latch (s : State) (cfg : Config) :
    (s.computeTorque cfg).latch = tseLatch cfg s.record s.latch := rfl
@[simp] theorem State.computeTorque_fsm (s : State) (cfg : Config) :
    (s.computeTorque cfg).fsm = s.fsm := rfl
@[simp] theorem State.computeTorque_r2dT0 (s : State) (cfg : Config) :
    (s.computeTorque cfg).r2dT0 = s.r2dT0 := rfl
@[simp] theorem State.computeTorque_response (s : State) (cfg : Config) :
    (s.computeTorque cfg).response = .torque (tseReply cfg s.record s.latch) := rfl
@[simp] theorem State.computeTorque_inputs (s : State) (cfg : Config) :
    (s.computeTorque cfg).inputs = s.inputs := rfl

@[simp] theorem State.controlTick_record (s : State) (cfg : Config) (now : Word) :
    (s.controlTick cfg now).record = s.record.writeBack (tseReply cfg s.record s.latch).pct
      (tseReply cfg s.record s.latch).ev23 (tseReply cfg s.record s.latch).t1189 := rfl
@[simp] theorem State.controlTick_latch (s : State) (cfg : Config) (now : Word) :
    (s.controlTick cfg now).latch = tseLatch cfg s.record s.latch := rfl
@[simp] theorem State.controlTick_fsm (s : State) (cfg : Config) (now : Word) :
    (s.controlTick cfg now).fsm = fsmNext cfg s.record s.r2dT0 now s.fsm := rfl
@[simp] theorem State.controlTick_r2dT0 (s : State) (cfg : Config) (now : Word) :
    (s.controlTick cfg now).r2dT0 = r2dT0Next cfg s.record s.r2dT0 now s.fsm := rfl
@[simp] theorem State.controlTick_response (s : State) (cfg : Config) (now : Word) :
    (s.controlTick cfg now).response = .control (controlOutput cfg s.fsm (tseReply cfg s.record s.latch).pct) := rfl
@[simp] theorem State.controlTick_inputs (s : State) (cfg : Config) (now : Word) :
    (s.controlTick cfg now).inputs = s.inputs := rfl

/-! ### Updates of the record (R104, R189) -/

@[simp] theorem VehicleInputs.setStartBtn_acc1 (r : VehicleInputs) (b : Bool) :
    (r.setStartBtn b).acc1 = r.acc1 := rfl
@[simp] theorem VehicleInputs.setStartBtn_acc2 (r : VehicleInputs) (b : Bool) :
    (r.setStartBtn b).acc2 = r.acc2 := rfl
@[simp] theorem VehicleInputs.setStartBtn_brake (r : VehicleInputs) (b : Bool) :
    (r.setStartBtn b).brake = r.brake := rfl
@[simp] theorem VehicleInputs.setStartBtn_startBtn (r : VehicleInputs) (b : Bool) :
    (r.setStartBtn b).startBtn = b := rfl
@[simp] theorem VehicleInputs.setStartBtn_invState (r : VehicleInputs) (b : Bool) :
    (r.setStartBtn b).invState = r.invState := rfl
@[simp] theorem VehicleInputs.setStartBtn_dcBusV (r : VehicleInputs) (b : Bool) :
    (r.setStartBtn b).dcBusV = r.dcBusV := rfl
@[simp] theorem VehicleInputs.setStartBtn_invTemp0 (r : VehicleInputs) (b : Bool) :
    (r.setStartBtn b).invTemp0 = r.invTemp0 := rfl
@[simp] theorem VehicleInputs.setStartBtn_invTemp1 (r : VehicleInputs) (b : Bool) :
    (r.setStartBtn b).invTemp1 = r.invTemp1 := rfl
@[simp] theorem VehicleInputs.setStartBtn_invTemp2 (r : VehicleInputs) (b : Bool) :
    (r.setStartBtn b).invTemp2 = r.invTemp2 := rfl
@[simp] theorem VehicleInputs.setStartBtn_invRpm (r : VehicleInputs) (b : Bool) :
    (r.setStartBtn b).invRpm = r.invRpm := rfl
@[simp] theorem VehicleInputs.setStartBtn_minCellV (r : VehicleInputs) (b : Bool) :
    (r.setStartBtn b).minCellV = r.minCellV := rfl
@[simp] theorem VehicleInputs.setStartBtn_prechargeAck (r : VehicleInputs) (b : Bool) :
    (r.setStartBtn b).prechargeAck = r.prechargeAck := rfl
@[simp] theorem VehicleInputs.setStartBtn_ev23 (r : VehicleInputs) (b : Bool) :
    (r.setStartBtn b).ev23 = r.ev23 := rfl
@[simp] theorem VehicleInputs.setStartBtn_t1189 (r : VehicleInputs) (b : Bool) :
    (r.setStartBtn b).t1189 = r.t1189 := rfl
@[simp] theorem VehicleInputs.setStartBtn_torque (r : VehicleInputs) (b : Bool) :
    (r.setStartBtn b).torque = r.torque := rfl

@[simp] theorem VehicleInputs.writeBack_acc1 (r : VehicleInputs) (tq : Byte) (ev t11 : Bool) :
    (r.writeBack tq ev t11).acc1 = r.acc1 := rfl
@[simp] theorem VehicleInputs.writeBack_acc2 (r : VehicleInputs) (tq : Byte) (ev t11 : Bool) :
    (r.writeBack tq ev t11).acc2 = r.acc2 := rfl
@[simp] theorem VehicleInputs.writeBack_brake (r : VehicleInputs) (tq : Byte) (ev t11 : Bool) :
    (r.writeBack tq ev t11).brake = r.brake := rfl
@[simp] theorem VehicleInputs.writeBack_startBtn (r : VehicleInputs) (tq : Byte) (ev t11 : Bool) :
    (r.writeBack tq ev t11).startBtn = r.startBtn := rfl
@[simp] theorem VehicleInputs.writeBack_invState (r : VehicleInputs) (tq : Byte) (ev t11 : Bool) :
    (r.writeBack tq ev t11).invState = r.invState := rfl
@[simp] theorem VehicleInputs.writeBack_dcBusV (r : VehicleInputs) (tq : Byte) (ev t11 : Bool) :
    (r.writeBack tq ev t11).dcBusV = r.dcBusV := rfl
@[simp] theorem VehicleInputs.writeBack_invTemp0 (r : VehicleInputs) (tq : Byte) (ev t11 : Bool) :
    (r.writeBack tq ev t11).invTemp0 = r.invTemp0 := rfl
@[simp] theorem VehicleInputs.writeBack_invTemp1 (r : VehicleInputs) (tq : Byte) (ev t11 : Bool) :
    (r.writeBack tq ev t11).invTemp1 = r.invTemp1 := rfl
@[simp] theorem VehicleInputs.writeBack_invTemp2 (r : VehicleInputs) (tq : Byte) (ev t11 : Bool) :
    (r.writeBack tq ev t11).invTemp2 = r.invTemp2 := rfl
@[simp] theorem VehicleInputs.writeBack_invRpm (r : VehicleInputs) (tq : Byte) (ev t11 : Bool) :
    (r.writeBack tq ev t11).invRpm = r.invRpm := rfl
@[simp] theorem VehicleInputs.writeBack_minCellV (r : VehicleInputs) (tq : Byte) (ev t11 : Bool) :
    (r.writeBack tq ev t11).minCellV = r.minCellV := rfl
@[simp] theorem VehicleInputs.writeBack_prechargeAck (r : VehicleInputs) (tq : Byte) (ev t11 : Bool) :
    (r.writeBack tq ev t11).prechargeAck = r.prechargeAck := rfl
@[simp] theorem VehicleInputs.writeBack_ev23 (r : VehicleInputs) (tq : Byte) (ev t11 : Bool) :
    (r.writeBack tq ev t11).ev23 = ev := rfl
@[simp] theorem VehicleInputs.writeBack_t1189 (r : VehicleInputs) (tq : Byte) (ev t11 : Bool) :
    (r.writeBack tq ev t11).t1189 = t11 := rfl
@[simp] theorem VehicleInputs.writeBack_torque (r : VehicleInputs) (tq : Byte) (ev t11 : Bool) :
    (r.writeBack tq ev t11).torque = tq := rfl

/-! ### The record of zeros (R35, R100) -/

@[simp] theorem VehicleInputs.zero_acc1 : VehicleInputs.zero.acc1 = 0 := rfl
@[simp] theorem VehicleInputs.zero_acc2 : VehicleInputs.zero.acc2 = 0 := rfl
@[simp] theorem VehicleInputs.zero_brake : VehicleInputs.zero.brake = 0 := rfl
@[simp] theorem VehicleInputs.zero_startBtn : VehicleInputs.zero.startBtn = false := rfl
@[simp] theorem VehicleInputs.zero_invState : VehicleInputs.zero.invState = 0 := rfl
@[simp] theorem VehicleInputs.zero_dcBusV : VehicleInputs.zero.dcBusV = 0 := rfl
@[simp] theorem VehicleInputs.zero_invTemp0 : VehicleInputs.zero.invTemp0 = 0 := rfl
@[simp] theorem VehicleInputs.zero_invTemp1 : VehicleInputs.zero.invTemp1 = 0 := rfl
@[simp] theorem VehicleInputs.zero_invTemp2 : VehicleInputs.zero.invTemp2 = 0 := rfl
@[simp] theorem VehicleInputs.zero_invRpm : VehicleInputs.zero.invRpm = 0 := rfl
@[simp] theorem VehicleInputs.zero_minCellV : VehicleInputs.zero.minCellV = 0 := rfl
@[simp] theorem VehicleInputs.zero_prechargeAck : VehicleInputs.zero.prechargeAck = 0 := rfl
@[simp] theorem VehicleInputs.zero_ev23 : VehicleInputs.zero.ev23 = false := rfl
@[simp] theorem VehicleInputs.zero_t1189 : VehicleInputs.zero.t1189 = false := rfl
@[simp] theorem VehicleInputs.zero_torque : VehicleInputs.zero.torque = 0 := rfl

/-! ### The fields a dispatch row writes (R125 to R130) -/

@[simp] theorem assignRow_prechargeAck (data : Payload) (r : VehicleInputs) :
    assignRow .prechargeAck data r = { r with prechargeAck := data[0] } := rfl
@[simp] theorem assignRow_dcBusV (data : Payload) (r : VehicleInputs) :
    assignRow .dcBusV data r = { r with dcBusV := le16 data[0] data[1] } := rfl
@[simp] theorem assignRow_acc1 (data : Payload) (r : VehicleInputs) :
    assignRow .acc1 data r = { r with acc1 := le16 data[0] data[1] } := rfl
@[simp] theorem assignRow_acc2 (data : Payload) (r : VehicleInputs) :
    assignRow .acc2 data r = { r with acc2 := le16 data[0] data[1] } := rfl
@[simp] theorem assignRow_brake (data : Payload) (r : VehicleInputs) :
    assignRow .brake data r = { r with brake := le16 data[0] data[1] } := rfl
@[simp] theorem assignRow_minCellV (data : Payload) (r : VehicleInputs) :
    assignRow .minCellV data r = { r with minCellV := be16 data[0] data[1] } := rfl

/-! ### Frames less their identifier (R76) -/

@[simp] theorem rx_toFrame_bus (g : RxFrame) (id : Word) : (g.toFrame id).bus = g.bus := rfl
@[simp] theorem frame_toRx_bus (f : CanFrame) : f.toRx.bus = f.bus := rfl
@[simp] theorem rx_toFrame_dlc (g : RxFrame) (id : Word) : (g.toFrame id).dlc = g.dlc := rfl
@[simp] theorem frame_toRx_dlc (f : CanFrame) : f.toRx.dlc = f.dlc := rfl
@[simp] theorem rx_toFrame_ext (g : RxFrame) (id : Word) : (g.toFrame id).ext = g.ext := rfl
@[simp] theorem frame_toRx_ext (f : CanFrame) : f.toRx.ext = f.ext := rfl
@[simp] theorem rx_toFrame_data (g : RxFrame) (id : Word) : (g.toFrame id).data = g.data := rfl
@[simp] theorem frame_toRx_data (f : CanFrame) : f.toRx.data = f.data := rfl
@[simp] theorem rx_toFrame_id (g : RxFrame) (id : Word) : (g.toFrame id).id = id := rfl
@[simp] theorem rx_toFrame_toRx (g : RxFrame) (id : Word) : (g.toFrame id).toRx = g := rfl
@[simp] theorem frame_toRx_toFrame (f : CanFrame) : f.toRx.toFrame f.id = f := rfl

/-! ### The empty batch (R84) -/

@[simp] theorem ControlOutput.start_count (tq : Byte) : (ControlOutput.start tq).count = 0 := rfl
@[simp] theorem ControlOutput.start_torque (tq : Byte) : (ControlOutput.start tq).torque = tq := rfl
@[simp] theorem ControlOutput.start_frames (tq : Byte) :
    (ControlOutput.start tq).frames = Vector.replicate 8 zeroFrame := rfl

end Sys2Proof.Machine
end

