-- ==== Sys2Proof/Laws/Operations.lean ====
section
/-! SUPPORT. One lemma per shared operation that says everything the operation can do. -/

namespace Sys2Proof

/-- The row an identifier selects is the row with that identifier (R81). -/
theorem DispatchRow.ofId_eq_some_iff (id : Word) (row : DispatchRow) :
    DispatchRow.ofId id = some row ↔ id = row.id := by
  constructor
  · intro h
    simp only [DispatchRow.ofId] at h
    split_ifs at h with h1 h2 h3 h4 h5 h6 <;> (injection h with h; subst h; assumption)
  · rintro rfl
    cases row <;> rfl

/-- Every row is found under its own identifier (R81). -/
@[simp] theorem DispatchRow.ofId_id (row : DispatchRow) : DispatchRow.ofId row.id = some row :=
  (DispatchRow.ofId_eq_some_iff _ _).2 rfl

namespace Machine

/-- A frame of a known row is ignored for its DLC (R131, R132), or writes the row's field. -/
theorem dispatchRow_cases (cfg : Config) (row : DispatchRow) (dlc : Byte) (data : Payload)
    (r : VehicleInputs) :
    (8 < dlc.toNat ∧ dispatchRow cfg row dlc data r = r) ∨
    (dlc.toNat ≤ 8 ∧ cfg.dlcMinCheck = true ∧ dlc.toNat < row.need ∧
      dispatchRow cfg row dlc data r = r) ∨
    (dlc.toNat ≤ 8 ∧ (cfg.dlcMinCheck = true → row.need ≤ dlc.toNat) ∧
      dispatchRow cfg row dlc data r = assignRow row data r) := by
  unfold dispatchRow maxDlc
  by_cases h : 8 < dlc.toNat
  · exact .inl ⟨h, if_pos h⟩
  · rw [if_neg h]
    by_cases h2 : (cfg.dlcMinCheck && decide (dlc.toNat < row.need)) = true
    · obtain ⟨a, b⟩ := Bool.and_eq_true_iff.1 h2
      exact .inr (.inl ⟨Nat.le_of_not_lt h, a, of_decide_eq_true b, if_pos h2⟩)
    · refine .inr (.inr ⟨Nat.le_of_not_lt h, fun hc => ?_, if_neg h2⟩)
      by_contra hlt
      exact h2 (by simp [hc, Nat.lt_of_not_le hlt])

/-- A dispatched frame of an unknown identifier is ignored (R131). -/
theorem dispatchFrame_unknown (cfg : Config) (f : CanFrame) (r : VehicleInputs)
    (h : DispatchRow.ofId f.id = none) : dispatchFrame cfg f r = r := by
  simp [dispatchFrame, h]

/-- A dispatched frame of a known identifier does what its row does (R123, R124). -/
theorem dispatchFrame_known (cfg : Config) (f : CanFrame) (r : VehicleInputs) (row : DispatchRow)
    (h : DispatchRow.ofId f.id = some row) :
    dispatchFrame cfg f r = dispatchRow cfg row f.dlc f.data r := by
  simp [dispatchFrame, h]

/-- The latch is set, cleared or kept (R153). -/
theorem latchUpdate_cases (cfg : Config) (brake : Half) (t : Nat) (latch : Bool) :
    (cfg.brakeThr.toNat < brake.toNat ∧ 25 < t ∧ latchUpdate cfg brake t latch = true) ∨
    (brake.toNat < cfg.brakeThr.toNat ∧ t < 5 ∧ latchUpdate cfg brake t latch = false) ∨
    (¬(cfg.brakeThr.toNat < brake.toNat ∧ 25 < t) ∧ ¬(brake.toNat < cfg.brakeThr.toNat ∧ t < 5) ∧
      latchUpdate cfg brake t latch = latch) := by
  have hs : latchSets cfg brake t = true ↔ cfg.brakeThr.toNat < brake.toNat ∧ 25 < t := by
    simp [latchSets, latchSetTorque]
  have hc : latchClears cfg brake t = true ↔ brake.toNat < cfg.brakeThr.toNat ∧ t < 5 := by
    simp [latchClears, latchClearTorque]
  unfold latchUpdate
  by_cases h1 : latchSets cfg brake t = true
  · exact .inl ⟨(hs.1 h1).1, (hs.1 h1).2, if_pos h1⟩
  · rw [if_neg h1]
    by_cases h2 : latchClears cfg brake t = true
    · exact .inr (.inl ⟨(hc.1 h2).1, (hc.1 h2).2, if_pos h2⟩)
    · exact .inr (.inr ⟨fun h => h1 (hs.2 h), fun h => h2 (hc.2 h), if_neg h2⟩)

/-- The gated mean of two percentages is at most 100 (R152). -/
theorem gatedMean_le (p1 p2 : Fin 101) : gatedMean p1.val p2.val ≤ 100 := by
  unfold gatedMean
  have := p1.isLt
  have := p2.isLt
  split <;> omega

/-- What the deadband and the saturation leave of a mean (R152). -/
theorem deadband_cases (t : Nat) :
    (t < 10 ∧ deadband t = 0) ∨ (10 ≤ t ∧ t ≤ 90 ∧ deadband t = t) ∨ (90 < t ∧ deadband t = 100) := by
  unfold deadband deadbandFloor saturationCeiling fullTorque
  split
  · exact .inl ⟨by assumption, rfl⟩
  · split
    · exact .inr (.inr ⟨by assumption, rfl⟩)
    · exact .inr (.inl ⟨by omega, by omega, rfl⟩)

/-- A batch with a free slot takes the frame in it (R188). -/
theorem ControlOutput.append_of_lt (o : ControlOutput) (f : CanFrame) (h : o.count.val < 8) :
    o.append f =
      { o with count := ⟨o.count.val + 1, Nat.succ_lt_succ h⟩, frames := o.frames.set o.count.val f h } :=
  dif_pos h

/-- A full batch drops the frame (R188). -/
theorem ControlOutput.append_of_full (o : ControlOutput) (f : CanFrame) (h : ¬o.count.val < 8) :
    o.append f = o :=
  dif_neg h

/-- What a step can do: hold, reset, or run the next command (R4, R242, R250). -/
theorem step_cases (s t : State) (h : step s = .next t) :
    (s.inputs = [] ∧ t = s) ∨
    (∃ rest, s.inputs = .reset :: rest ∧ t = (s.setInputs rest).hardReset) ∨
    (∃ p rest, s.inputs = .command p :: rest ∧ exec (decode p) (s.setInputs rest) = .next t) := by
  unfold step at h
  split at h
  · rename_i he
    exact .inl ⟨he, by injection h with h; exact h.symm⟩
  · rename_i rest he
    exact .inr (.inl ⟨rest, he, by injection h with h; exact h.symm⟩)
  · rename_i p rest he
    exact .inr (.inr ⟨p, rest, he, h⟩)

/-- What a step that meets the host's input answers, one equation per kind of input. -/
theorem step_of_inputs (s : State) (rest : List PortInput) :
    (s.inputs = [] → step s = .next s) ∧
    (s.inputs = .reset :: rest → step s = .next (s.setInputs rest).hardReset) ∧
    ∀ p, s.inputs = .command p :: rest → step s = exec (decode p) (s.setInputs rest) := by
  refine ⟨fun h => ?_, fun h => ?_, fun p h => ?_⟩ <;> simp [step, h]

end Machine

end Sys2Proof
end

