-- ==== Sys2Proof/Laws/PerInstr.lean ====
section
/-! SUPPORT. Families of lemmas over the constructors of Instr. -/

namespace Sys2Proof.Laws

/-- The encoder leaves every port that the op does not use at 0 (30_encoding.md R72). -/
def EncodedPorts.Statement (i : Instr) : Prop := (encode i).used = encode i

namespace EncodedPorts

theorem init : Statement .init := rfl
theorem snapshot : Statement .snapshot := rfl
theorem setStart (b : Bool) : Statement (.setStart b) := rfl
theorem pack (f : CanFrame) : Statement (.pack f) := rfl
theorem unpack (it : CanQueueItem) : Statement (.unpack it) := rfl
theorem dispatch (f : CanFrame) : Statement (.dispatch f) := rfl
theorem rxitem (it : CanQueueItem) : Statement (.rxitem it) := rfl
theorem computeTorque : Statement .computeTorque := rfl
theorem step (now : Word) : Statement (.step now) := rfl
theorem tlmBuild : Statement .tlmBuild := rfl
theorem reserved0 : Statement .reserved0 := rfl
theorem reservedB : Statement .reservedB := rfl
theorem reservedC (low : BitVec 2) : Statement (.reservedC low) := by
  revert low; unfold Statement; decide
theorem rxPrechargeAck (g : RxFrame) : Statement (.rxPrechargeAck g) := rfl
theorem rxDcBusV (g : RxFrame) : Statement (.rxDcBusV g) := rfl
theorem rxAcc1 (g : RxFrame) : Statement (.rxAcc1 g) := rfl
theorem rxAcc2 (g : RxFrame) : Statement (.rxAcc2 g) := rfl
theorem rxBrake (g : RxFrame) : Statement (.rxBrake g) := rfl
theorem rxMinCellV (g : RxFrame) : Statement (.rxMinCellV g) := rfl

end EncodedPorts

end Sys2Proof.Laws
end

