-- ==== Sys2Proof/Tests/Slice0.lean ====
section
/-! SUPPORT. The model's own tests. The expected values are the vectors of spec/95_test_vectors.md, named by
their row there; the witnesses at the end meet the hypotheses of the statements. -/

namespace Sys2Proof.Tests

open Sys2Proof.Machine

/-! ### Helpers -/

/-- A record with the three sensors set. -/
def sensors (acc1 acc2 brake : Half) : VehicleInputs :=
  { VehicleInputs.zero with acc1 := acc1, acc2 := acc2, brake := brake }

/-- The reset state with a record. -/
def withRecord (r : VehicleInputs) : State := State.reset.setRecord r

/-- A frame of the dispatch vectors. -/
def rxTest (dlc : Byte) (b0 b1 : Byte) : RxFrame :=
  { bus := 1, dlc := dlc, ext := false, data := #v[b0, b1, 0, 0, 0, 0, 0, 0] }

/-- The record after an instruction, where it completes. -/
def recordAfter (i : Instr) (s : State) : Option VehicleInputs :=
  match exec i s with
  | .next t => some t.record
  | _       => none

/-- The response of an instruction, where it completes. -/
def responseOf (i : Instr) (s : State) : Option Response :=
  match exec i s with
  | .next t => some t.response
  | _       => none

/-- A state in which the host presents one command. -/
def presents (p : Ports) : State := State.reset.setInputs [.command p]

/-! ### Well-formedness -/

/-- The one check refuses a frame whose identifier has a row of its own. -/
theorem test_wf_refuses_mapped_dispatch :
    (Instr.dispatch ((rxTest 2 0 8).toFrame 0x101)).wf = false := by decide

theorem test_wf_takes_unmapped_dispatch :
    (Instr.dispatch ((rxTest 2 0xFF 0x0F).toFrame 0x104)).wf = true := by decide

/-! ### Decoding: words written out from the encodings of R70, R79, R80 -/

theorem test_decode_init : decode { op := 1, bit := 1, now := 9, item := 5, frame := 7 } = .init := by decide

theorem test_decode_snapshot :
    decode { op := 2, bit := 0, now := 0, item := 0, frame := 0 } = .snapshot := by decide

theorem test_decode_set_start :
    decode { op := 3, bit := 1, now := 0, item := 0, frame := 0 } = .setStart true := by decide

/-- K2's frame_in. -/
theorem test_decode_pack :
    decode { op := 4, bit := 0, now := 0, item := 0, frame := 0x110EECCAA886644230318FF50E502 } =
      .pack { bus := 2, id := 0x18FF50E5, dlc := 3, ext := true
              data := #v[0x11, 0x22, 0x33, 0x44, 0x55, 0x66, 0x77, 0x88] } := by decide

theorem test_decode_unpack :
    decode { op := 5, bit := 0, now := 0, item := 0x887766554433221100010318FF50E502, frame := 0 } =
      .unpack #v[0x02, 0xE5, 0x50, 0xFF, 0x18, 0x03, 0x01, 0, 0x11, 0x22, 0x33, 0x44, 0x55, 0x66, 0x77, 0x88] :=
  by decide

/-- P1 step 5. -/
theorem test_decode_rx_brake :
    decode { op := 6, bit := 0, now := 0, item := 0, frame := 0xBB8020000010301 } =
      .rxBrake (rxTest 2 0xDC 0x05) := by decide

/-- P2 step 3. -/
theorem test_decode_rx_min_cell :
    decode { op := 6, bit := 0, now := 0, item := 0, frame := 0x201C020000012C01 } =
      .rxMinCellV (rxTest 2 0x0E 0x10) := by decide

/-- P2 step 5. -/
theorem test_decode_dispatch :
    decode { op := 6, bit := 0, now := 0, item := 0, frame := 0x1FFE020000010401 } =
      .dispatch ((rxTest 2 0xFF 0x0F).toFrame 0x104) := by decide

/-- P1 step 3. -/
theorem test_decode_rxitem :
    decode { op := 7, bit := 0, now := 0, item := 0x00000000000000010000010000002002, frame := 0 } =
      .rxitem #v[0x02, 0x20, 0, 0, 0, 0x01, 0, 0, 0x01, 0, 0, 0, 0, 0, 0, 0] := by decide

theorem test_decode_step :
    decode { op := 9, bit := 0, now := 0x000007ED, item := 0, frame := 0 } = .step 2029 := by decide

theorem test_decode_plain_ops :
    decode (Ports.ofOp 8) = .computeTorque ∧ decode (Ports.ofOp 0xA) = .tlmBuild := by decide

theorem test_decode_reserved :
    decode (Ports.ofOp 0) = .reserved0 ∧ decode (Ports.ofOp 0xB) = .reservedB ∧
    decode (Ports.ofOp 0xC) = .reservedC 0 ∧ decode (Ports.ofOp 0xF) = .reservedC 3 := by decide

/-- The dispatch identifiers of R81 under the opcode table's numbering. -/
theorem test_table_words :
    decodeTableWord 8 0x9 = some (.step 0) ∧
    decodeTableWord 32 0x20 =
      some (.rxPrechargeAck { bus := 0, dlc := 0, ext := false, data := Vector.replicate 8 0 }) ∧
    decodeTableWord 32 0x100 =
      some (.rxDcBusV { bus := 0, dlc := 0, ext := false, data := Vector.replicate 8 0 }) ∧
    decodeTableWord 32 0x101 =
      some (.rxAcc1 { bus := 0, dlc := 0, ext := false, data := Vector.replicate 8 0 }) ∧
    decodeTableWord 32 0x102 =
      some (.rxAcc2 { bus := 0, dlc := 0, ext := false, data := Vector.replicate 8 0 }) := by decide

theorem test_encode_pack :
    (encode (.pack { bus := 1, id := 0x181, dlc := 8, ext := false
                     data := #v[0x32, 0, 0, 0, 0, 0, 0, 0] })).frame = 0x64080000018101 := by decide

/-! ### Shared state (S1, S3, S5) -/

theorem test_init_keeps_latch :
    exec .init { State.reset with record := sensors 2048 0 0, latch := true, fsm := .run, r2dT0 := 30 } =
      .next { State.reset with latch := true, fsm := .run, r2dT0 := 30 } := rfl

theorem test_snapshot : responseOf .snapshot (withRecord { VehicleInputs.zero with dcBusV := 400 }) =
    some (.record { VehicleInputs.zero with dcBusV := 400 }) := by decide

theorem test_set_start : recordAfter (.setStart true) State.reset =
    some { VehicleInputs.zero with startBtn := true } := by decide

/-! ### Codec (K1, K4, U1) -/

theorem test_pack_item :
    packItem { bus := 0xFF, id := 0xFFFFFFFF, dlc := 0xFF, ext := true, data := Vector.replicate 8 0xFF } =
      #v[0xFF, 0xFF, 0xFF, 0xFF, 0xFF, 0xFF, 1, 0, 0xFF, 0xFF, 0xFF, 0xFF, 0xFF, 0xFF, 0xFF, 0xFF] := by decide

/-- K2's item_out. -/
theorem test_pack_port :
    ((responseOf (.pack { bus := 2, id := 0x18FF50E5, dlc := 3, ext := true
                          data := #v[0x11, 0x22, 0x33, 0x44, 0x55, 0x66, 0x77, 0x88] }) State.reset).map
      fun v => v.onPorts.itemOut) = some (some 0x887766554433221100010318FF50E502) := by decide

/-- U1: byte 6 is 07 and byte 7 is AA. -/
theorem test_unpack_item :
    responseOf (.unpack #v[0x02, 0xE5, 0x50, 0xFF, 0x18, 0x03, 0x07, 0xAA, 0x11, 0x22, 0x33, 0x44, 0x55,
      0x66, 0x77, 0x88]) State.reset =
      some (.frame { bus := 2, id := 0x18FF50E5, dlc := 3, ext := true
                     data := #v[0x11, 0x22, 0x33, 0x44, 0x55, 0x66, 0x77, 0x88] }) := by decide

/-! ### Dispatch (D2 to D18, X4), under CFG0 and under its variant with the minimum-length check -/

/-- CFG0 with `P_DLC_MIN_CHECK` true. -/
def cfgMin : Config := { cfg0 with dlcMinCheck := true }

theorem test_rx_precharge : (dispatchRow cfg0 .prechargeAck 1 #v[0xFF, 0, 0, 0, 0, 0, 0, 0]
    VehicleInputs.zero) = { VehicleInputs.zero with prechargeAck := 255 } := by decide

theorem test_rx_dc_bus : (dispatchRow cfg0 .dcBusV 2 #v[0x0E, 0x10, 0, 0, 0, 0, 0, 0]
    VehicleInputs.zero) = { VehicleInputs.zero with dcBusV := 4110 } := by decide

theorem test_rx_acc1_long : (dispatchFrame cfg0
      { bus := 1, id := 0x101, dlc := 8, ext := false
        data := #v[0x34, 0x12, 0xAA, 0xBB, 0xCC, 0xDD, 0xEE, 0xFF] } VehicleInputs.zero) =
    { VehicleInputs.zero with acc1 := 0x1234 } := by decide

theorem test_rx_acc1_min_check :
    dispatchFrame cfgMin ((rxTest 1 0 8).toFrame 0x101) VehicleInputs.zero = VehicleInputs.zero ∧
    (dispatchFrame cfg0 ((rxTest 1 0 8).toFrame 0x101) VehicleInputs.zero).acc1 = 2048 := by decide

theorem test_rx_acc2 : (dispatchFrame cfgMin ((rxTest 2 0xFF 0x0F).toFrame 0x102) VehicleInputs.zero) =
    { VehicleInputs.zero with acc2 := 4095 } := by decide

/-- D9: bus 3, extended. -/
theorem test_rx_brake : (dispatchFrame cfg0
      { bus := 3, id := 0x103, dlc := 2, ext := true, data := #v[0xE8, 0x03, 0, 0, 0, 0, 0, 0] }
      VehicleInputs.zero) = { VehicleInputs.zero with brake := 1000 } := by decide

theorem test_rx_min_cell : (dispatchRow cfg0 .minCellV 2 #v[0x0E, 0x10, 0, 0, 0, 0, 0, 0]
    VehicleInputs.zero) = { VehicleInputs.zero with minCellV := 3600 } := by decide

/-- D10 and D13. -/
theorem test_dispatch_ignored :
    recordAfter (.rxAcc1 (rxTest 9 0 8)) State.reset = some VehicleInputs.zero ∧
    recordAfter (.dispatch ((rxTest 2 0 8).toFrame 0x80000101)) State.reset = some VehicleInputs.zero := by
  decide

/-- X4. -/
theorem test_rxitem : (dispatchFrame cfg0
      (unpackItem #v[0x01, 0x03, 0x01, 0, 0, 0x02, 0x7F, 0x55, 0xDC, 0x05, 0, 0, 0, 0, 0, 0])
      VehicleInputs.zero).brake = 1500 := by decide

/-- X5. -/
theorem test_rxitem_ignored :
    recordAfter (.rxitem #v[0x01, 0x04, 0x01, 0, 0, 0x02, 0, 0, 0xFF, 0x0F, 0, 0, 0, 0, 0, 0]) State.reset =
      some VehicleInputs.zero := by decide

/-! ### Torque safety engine (R151, T4 to T25) -/

theorem test_linear_cal : (linearCal 0 4095 368).val = 8 ∧ (linearCal 0 4095 409).val = 9 ∧
    (linearCal 0 4095 3727).val = 91 ∧ (linearCal 0 4095 65535).val = 100 := by decide

theorem test_tse_boundaries :
    (tseReply cfg0 (sensors 410 369 0) false).pct = 0 ∧ (tseReply cfg0 (sensors 410 410 0) false).pct = 10 ∧
    (tseReply cfg0 (sensors 3727 3726 0) false).pct = 90 ∧
    (tseReply cfg0 (sensors 3727 3727 0) false).pct = 100 ∧
    (tseReply cfg0 (sensors 4095 368 0) false).pct = 0 := by decide

theorem test_tse_latch :
    tseReply cfg0 (sensors 1065 1065 4095) false = { pct := 0, ev23 := true, t1189 := false } ∧
    tseReply cfg0 (sensors 1024 1065 4095) false = { pct := 25, ev23 := false, t1189 := false } ∧
    tseReply cfg0 (sensors 0 0 1000) true = { pct := 0, ev23 := true, t1189 := false } ∧
    tseReply cfg0 (sensors 0 0 0) true = { pct := 0, ev23 := false, t1189 := false } ∧
    tseReply cfg0 (sensors 2048 2048 999) true = { pct := 0, ev23 := true, t1189 := false } := by decide

/-! ### Control state machine (F7, F9, F12 to F17) -/

/-- A state in the state machine's state `q` with R2D origin `t0`. -/
def inState (q : FsmState) (t0 : Word) (r : VehicleInputs) : State :=
  (withRecord r).setControl q t0

theorem test_step_r2d_wrap :
    ((inState .r2dDelay 0xFFFFFF00 VehicleInputs.zero).controlTick cfg0 0x6CF).fsm = .r2dDelay ∧
    ((inState .r2dDelay 0xFFFFFF00 VehicleInputs.zero).controlTick cfg0 0x6D0).fsm = .ready ∧
    ((inState .waitStartBrake 0 { sensors 0 0 1001 with startBtn := true }).controlTick cfg0 77).r2dT0 = 77 ∧
    ((inState .waitStartBrake 0 { sensors 0 0 1000 with startBtn := true }).controlTick cfg0 5).fsm =
      .waitStartBrake := by decide

/-- F16: the frame of its `cout_out` 0x64080000018101321, and the fields below it. -/
theorem test_step_run_frame :
    frameToBits (invCmdFrame cfg0 0x32) = 0x64080000018101 ∧
    (controlOutput cfg0 .run 0x32).count = 1 ∧ (controlOutput cfg0 .run 0x32).torque = 0x32 ∧
    (controlOutput cfg0 .run 0x32).frames[0] = invCmdFrame cfg0 0x32 := by decide

/-! ### Telemetry (M2, M4), reserved ops, syntax, step -/

theorem test_telemetry :
    responseOf .tlmBuild (withRecord { VehicleInputs.zero with
      torque := 50, dcBusV := 400, minCellV := 3600, acc1 := 2048, acc2 := 2048, prechargeAck := 0xFF
      startBtn := true }) =
    some (.telemetry (#v[0, 0x32, 0x90, 0x01, 0x10, 0x0E, 0, 0x08, 0, 0x08, 0, 0, 0, 0, 0xFF, 0x01,
      0, 0, 0, 0, 0, 0, 0, 0, 0, 0, 0, 0, 0, 0, 0, 0])) := by decide

theorem test_reserved : exec (.reservedC 3) State.reset = .refused (.reservedOp 0xF) ∧
    exec .reserved0 State.reset = .refused (.reservedOp 0) ∧
    exec .reservedB State.reset = .refused (.reservedOp 0xB) := ⟨rfl, rfl, rfl⟩

theorem test_asm_frame :
    asmLine
      ("DISPATCH ".toList ++ [Char.ofNat 123] ++
        "bus=2, id=0x20, dlc=1, ext=0, data=[01 00 00 00 00 00 00 00]".toList ++ [Char.ofNat 125]) =
    some (.command (.dispatch
      { bus := 2, id := 0x20, dlc := 1, ext := false, data := #v[1, 0, 0, 0, 0, 0, 0, 0] })) := by decide

/-- P1 step 5 and P2 step 3 from their text, and two lines that are none of R91's. -/
theorem test_asm_pseudo :
    assemble ["RX16 0x103 1500".toList, "; note".toList, "RXBE16 0x12C 3600".toList] =
      some [.command { Ports.ofOp 6 with frame := 0xBB8020000010301 },
        .command { Ports.ofOp 6 with frame := 0x201C020000012C01 }] ∧
    asmLine "STEP 4294967296".toList = none ∧ asmLine "SET_START 2".toList = none := by decide

theorem test_step_runs_word :
    step (State.reset.withFetchWord 8 0x1) = .next State.reset ∧
    step (State.reset.withFetchWord 8 0xB) = .refused (.reservedOp 0xB) := ⟨rfl, rfl⟩

/-! ### Witnesses: states and operands that meet the hypotheses of the statements -/

theorem witness_ResetInputRestoresReset :
    (State.reset.setInputs [.reset]).inputs = .reset :: ([] : List PortInput) := rfl

theorem witness_IdleStepHoldsState : State.reset.inputs = [] := rfl

theorem witness_StepRunsDecodedCommand :
    (presents (Ports.ofOp 1)).inputs = [.command (Ports.ofOp 1)] ∧ decode (Ports.ofOp 1) = .init := by decide

/-- One witness per op, both ends of the reserved range among them (also for the op clauses of
InitZeroesRecord, SnapshotRespondsRecord, SetStartWritesButton, PackBuildsItem, UnpackReadsItem,
DispatchByIdentifier, RxitemIsUnpackThenDispatch, ComputeTorqueUpdatesLatch, StepRunsControlTick,
TelemetryStatusFrame). -/
theorem witness_DecodeByOp : (∀ op : BitVec 4, (Ports.ofOp op).op = op) ∧
    0xC ≤ (Ports.ofOp 0xC).op.toNat ∧ 0xC ≤ (Ports.ofOp 0xF).op.toNat := ⟨fun _ => rfl, by decide, by decide⟩

theorem witness_DecodeOfEncode : (Instr.dispatch ((rxTest 2 0xFF 0x0F).toFrame 0x104)).wf = true ∧
    (Instr.rxAcc1 (rxTest 2 0 8)).wf = true ∧ (Instr.step 0xFFFFFFFF).wf = true := by decide

/-- Two commands that differ only in a port their op does not use, for one op of each kind. -/
theorem witness_UnusedPortsIgnored :
    ∀ op : BitVec 4, op = 3 ∨ op = 4 ∨ op = 5 ∨ op = 6 ∨ op = 7 ∨ op = 9 ∨ op = 1 →
      (Ports.ofOp op).op = (Ports.ofOp op).op ∧
      (op ≠ 9 → ({ Ports.ofOp op with now := 1 } : Ports).bit = (Ports.ofOp op).bit ∧
        ({ Ports.ofOp op with now := 1 } : Ports).frame = (Ports.ofOp op).frame ∧
        ({ Ports.ofOp op with now := 1 } : Ports).item = (Ports.ofOp op).item) ∧
      (op = 9 → ({ Ports.ofOp op with bit := 1 } : Ports).now = (Ports.ofOp op).now) := by
  intro op _; exact ⟨rfl, fun _ => ⟨rfl, rfl, rfl⟩, fun _ => rfl⟩

theorem witness_InitZeroesRecord : (inState .run 30 VehicleInputs.zero).fsm = .run := rfl

theorem witness_SnapshotRespondsRecord :
    (State.reset.setLatch true).record = State.reset.record := rfl

theorem witness_DispatchCommandOnPort :
    (presents (Ports.ofOp 6)).inputs = [.command (Ports.ofOp 6)] ∧ (Ports.ofOp 6).op = 0x6#4 := by decide

/-- Every configuration takes a DLC of 2 (and of 8) for a field of 1 or 2 bytes, and none takes 9. -/
theorem witness_DispatchRowsWriteTheirField :
    DlcTaken Config.installed 1 (rxTest 2 0 8).dlc ∧ DlcTaken Config.installed 2 (rxTest 2 0 8).dlc ∧
    DlcTaken Config.installed 2 (rxTest 8 0 8).dlc ∧ ¬DlcTaken Config.installed 1 (rxTest 9 0 8).dlc ∧
    ¬DlcTaken Config.installed 2 (rxTest 9 0 8).dlc := by
  refine ⟨⟨by decide, fun _ => by decide⟩, ⟨by decide, fun _ => by decide⟩,
    ⟨by decide, fun _ => by decide⟩, fun h => ?_, fun h => ?_⟩ <;> exact absurd h.1 (by decide)

theorem witness_CellVoltageChangesByteOrder : DlcTaken Config.installed 2 (rxTest 2 0x0E 0x10).dlc :=
  ⟨by decide, fun _ => by decide⟩

theorem witness_IgnoredFramesChangeNothing :
    8 < ((rxTest 9 0 8).toFrame 0x101).dlc.toNat ∧
    ((rxTest 2 0 8).toFrame 0x104).id ≠ 0x20#32 ∧ ((rxTest 2 0 8).toFrame 0x104).id ≠ 0x100#32 ∧
    ((rxTest 2 0 8).toFrame 0x104).id ≠ 0x101#32 ∧ ((rxTest 2 0 8).toFrame 0x104).id ≠ 0x102#32 ∧
    ((rxTest 2 0 8).toFrame 0x104).id ≠ 0x103#32 ∧ ((rxTest 2 0 8).toFrame 0x104).id ≠ 0x12C#32 := by decide

/-- A DLC of 1: enough for identifier 0x20, short for the other five. -/
theorem witness_ShortDlcFollowsParameter :
    ((rxTest 1 0 8).toFrame 0x101).id = DispatchRow.acc1.id ∧ ((rxTest 1 0 8).toFrame 0x101).dlc.toNat ≤ 8 ∧
    cfg0.dlcMinCheck = false ∧ cfgMin.dlcMinCheck = true ∧
    ((rxTest 1 0 8).toFrame 0x101).dlc.toNat < (if ((rxTest 1 0 8).toFrame 0x101).id = 0x20#32 then 1 else 2) ∧
    ((rxTest 1 0 8).toFrame 0x20).id = DispatchRow.prechargeAck.id ∧
    (if ((rxTest 1 0 8).toFrame 0x20).id = 0x20#32 then 1 else 2) ≤ ((rxTest 1 0 8).toFrame 0x20).dlc.toNat := by
  decide

/-- Both examples, at the two ends of the DLC's range. -/
theorem witness_DispatchKeyIsIdentifier :
    2 ≤ (rxTest 2 0 8).dlc.toNat ∧ (rxTest 8 0 8).dlc.toNat ≤ 8 ∧
    ({ (rxTest 2 0 8).toFrame 0x101 with ext := true } : CanFrame).ext = true ∧
    ({ (rxTest 8 0 8).toFrame 0x103 with bus := 3 } : CanFrame).bus = 3 := by decide

theorem witness_RxitemIsUnpackThenDispatch :
    8 < (#v[0x01, 0x01, 0x01, 0, 0, 0x09, 0, 0, 0xFF, 0x0F, 0, 0, 0, 0, 0, 0] : CanQueueItem)[5].toNat := by
  decide

/-- Numerals at both ends of their widths, decimal and hexadecimal. -/
theorem witness_PseudoCommandsExpand :
    numeralOf 32 "0x101".toList = some 0x101 ∧ numeralOf 32 "0xFFFFFFFF".toList = some 0xFFFFFFFF ∧
    numeralOf 16 "0".toList = some 0 ∧ numeralOf 16 "65535".toList = some 65535 := by decide

theorem witness_TseComposition :
    50 = (cfg0.cal1 (sensors 2048 2048 4095).acc1).val ∧ 50 = (cfg0.cal2 (sensors 2048 2048 4095).acc2).val ∧
    50 = (if 50 > 8 ∧ 50 > 8 then (50 + 50) / 2 else 0) ∧
    50 = (if 50 < 10 then 0 else if 50 > 90 then 100 else 50) ∧
    true = (if (sensors 2048 2048 4095).brake.toNat > cfg0.brakeThr.toNat ∧ 50 > 25 then true
      else if (sensors 2048 2048 4095).brake.toNat < cfg0.brakeThr.toNat ∧ 50 < 5 then false else false) ∧
    (sensors 1 2 3).acc1 = ({ sensors 1 2 3 with torque := 9 } : VehicleInputs).acc1 := by decide

theorem witness_ComputedTorqueRange :
    pct1 cfg0 (sensors 368 4095 0) = 8 ∧
    8 < pct1 cfg0 (sensors 369 369 0) ∧ 8 < pct2 cfg0 (sensors 369 369 0) ∧
    (pct1 cfg0 (sensors 369 369 0) + pct2 cfg0 (sensors 369 369 0)) / 2 < 10 ∧
    90 < (pct1 cfg0 (sensors 3727 3727 0) + pct2 cfg0 (sensors 3727 3727 0)) / 2 ∧
    (pct1 cfg0 (sensors 410 410 0) + pct2 cfg0 (sensors 410 410 0)) / 2 = 10 := by decide

theorem witness_LatchUpdateRule :
    (cfg0.brakeThr.toNat < (sensors 1065 1065 1001).brake.toNat ∧
      25 < computedTorque cfg0 (sensors 1065 1065 1001)) ∧
    ((sensors 0 0 999).brake.toNat < cfg0.brakeThr.toNat ∧ computedTorque cfg0 (sensors 0 0 999) < 5) ∧
    ¬(cfg0.brakeThr.toNat < (sensors 0 0 1000).brake.toNat ∧ 25 < computedTorque cfg0 (sensors 0 0 1000)) ∧
    ¬((sensors 0 0 1000).brake.toNat < cfg0.brakeThr.toNat ∧ computedTorque cfg0 (sensors 0 0 1000) < 5) ∧
    (sensors 0 0 1000).brake = cfg0.brakeThr := by decide

theorem witness_LatchForcesTorque :
    tseLatch cfg0 (sensors 2048 2048 4095) false = true ∧ tseLatch cfg0 (sensors 2048 2048 0) false = false ∧
    tseLatch cfg0 (sensors 0 0 0) true = false := by decide

theorem witness_TorqueResultRange : 0 < (tseReply cfg0 (sensors 2048 2048 0) false).pct.toNat := by decide

theorem witness_ComputeTorqueUpdatesLatch :
    (withRecord (sensors 4095 4095 4095)).record.acc1 = 4095 ∧
    (withRecord (sensors 4095 4095 4095)).record.acc2 = 4095 ∧
    (withRecord (sensors 4095 4095 4095)).record.brake = 4095 ∧
    (withRecord (sensors 4095 4095 4095)).latch = false := by decide

/-- The clause on two calls of COMPUTE_TORQUE: another command between them. -/
theorem witness_ComputeTorqueUpdatesLatch_repeated :
    exec .computeTorque State.reset = .next (State.reset.computeTorque Config.installed) ∧
    ((State.reset.computeTorque Config.installed).respond .empty).record =
      (State.reset.computeTorque Config.installed).record ∧
    ((State.reset.computeTorque Config.installed).respond .empty).latch =
      (State.reset.computeTorque Config.installed).latch := ⟨rfl, rfl, rfl⟩

theorem witness_TelemetryStatusFrame : State.reset.record.Inv :=
  ⟨.inl rfl, rfl, rfl, rfl, rfl, rfl, rfl⟩

theorem witness_SettingCallCutsTorque :
    cfg0.brakeThr.toNat < (withRecord (sensors 2048 2048 4095)).record.brake.toNat ∧
    25 < computedTorque cfg0 (withRecord (sensors 2048 2048 4095)).record := by decide

/-- A latched state with the brake at its largest reading, which no threshold exceeds, before a
COMPUTE_TORQUE. -/
def latched : State :=
  ((withRecord (sensors 0 0 0xFFFF)).setLatch true).setInputs [.command (Ports.ofOp 8)]

theorem witness_LatchPersistsOverRuns :
    latched.latch = true ∧ latched.response.Cut ∧
    Unreleased Config.installed 1 latched ((latched.setInputs []).computeTorque Config.installed) := by
  refine ⟨rfl, trivial, rfl, ?_, _, rfl, rfl⟩
  have h : ¬(65535 < Config.installed.brakeThr.toNat) := by
    have := Config.installed.brakeThr.isLt
    omega
  show (true && decide (65535 < Config.installed.brakeThr.toNat) && _) = false
  rw [decide_eq_false h]
  rfl

theorem witness_ConformantScenarios : Conformant cfg0 ∧ (999 : Half).toNat < cfg0.brakeThr.toNat := by
  refine ⟨⟨?_, ?_, ?_, ?_⟩, ?_⟩
  · unfold MidScale; decide
  · unfold ZeroScale; decide
  · unfold FullScale; decide
  · decide
  · decide

theorem witness_StepRunsControlTick :
    tseReply Config.installed VehicleInputs.zero false = tseReply Config.installed State.reset.record
      State.reset.latch ∧
    tseLatch Config.installed VehicleInputs.zero false = tseLatch Config.installed State.reset.record
      State.reset.latch := ⟨rfl, rfl⟩

theorem witness_StartNeedsButtonAndBrake :
    (inState .waitStartBrake 0 { sensors 0 0 1001 with startBtn := true }).fsm = .waitStartBrake ∧
    (inState .waitStartBrake 0 { sensors 0 0 1001 with startBtn := true }).record.startBtn = true ∧
    cfg0.brakeThr.toNat <
      (inState .waitStartBrake 0 { sensors 0 0 1001 with startBtn := true }).record.brake.toNat ∧
    (inState .waitStartBrake 0 { sensors 0 0 1000 with startBtn := true }).record.brake = cfg0.brakeThr ∧
    (inState .waitStartBrake 0 VehicleInputs.zero).record.startBtn ≠ true := by decide

/-- The boundary of E5 (1999 and 2000 ms), and the same across the wrap. -/
theorem witness_R2dDelayOnHostTime :
    HostDuty 30 2029 ∧ HostDuty 30 2030 ∧ HostDuty 0xFFFFFF00 0x1000006D0 ∧
    (inState .r2dDelay 30 VehicleInputs.zero).fsm = .r2dDelay ∧
    (inState .r2dDelay 30 VehicleInputs.zero).r2dT0 = BitVec.ofNat 32 30 ∧
    2029 - 30 < 2000 ∧ 2000 ≤ 2030 - 30 := by
  unfold HostDuty; decide

theorem witness_FramesOnlyInRun :
    (inState .run 0 VehicleInputs.zero).fsm = .run ∧ (inState .ready 0 VehicleInputs.zero).fsm ≠ .run ∧
    (ControlOutput.start 0).count.val < 8 ∧
    ({ ControlOutput.start 0 with count := 8 } : ControlOutput).count.val = 8 := by decide

theorem witness_StartupReachesRun :
    (withRecord { sensors 0 0 1500 with prechargeAck := 1, startBtn := true }).fsm = .boot ∧
    (withRecord { sensors 0 0 1500 with prechargeAck := 1, startBtn := true }).record.prechargeAck ≠ 0 ∧
    (withRecord { sensors 0 0 1500 with prechargeAck := 1, startBtn := true }).record.startBtn = true ∧
    cfg0.brakeThr.toNat <
      (withRecord { sensors 0 0 1500 with prechargeAck := 1, startBtn := true }).record.brake.toNat ∧
    2000 ≤ ((0x6DA : Word) - 0xFFFFFF0A).toNat := by decide

theorem witness_WaitsForPrecharge : (State.reset.fsm = .boot ∨ State.reset.fsm = .waitPrechargeAck) ∧
    State.reset.record.prechargeAck = 0 ∧ ([0, 10] : List Word) ≠ [] := by decide

theorem witness_RunLeftOnlyByReset :
    (inState .run 0 VehicleInputs.zero).fsm = .run ∧
    step (inState .run 0 VehicleInputs.zero) = .next (inState .run 0 VehicleInputs.zero) ∧
    step ((inState .run 0 VehicleInputs.zero).setInputs [.reset]) = .next State.reset := ⟨rfl, rfl, rfl⟩

theorem witness_ReservedOpsRefused :
    (presents (Ports.ofOp 0)).inputs = [.command (Ports.ofOp 0)] ∧ (Ports.ofOp 0).op = 0x0#4 ∧
    0xB ≤ (Ports.ofOp 0xB).op.toNat ∧ 0xB ≤ (Ports.ofOp 0xF).op.toNat := by decide

theorem witness_DefinedCommandsComplete : reservedRow .tlmBuild = false ∧
    (presents (Ports.ofOp 0xA)).inputs = [.command (Ports.ofOp 0xA)] ∧ 1 ≤ (Ports.ofOp 1).op.toNat ∧
    (Ports.ofOp 0xA).op.toNat ≤ 0xA := by decide

theorem witness_RecordWriters : exec (.setStart true) State.reset =
    .next (withRecord (VehicleInputs.zero.setStartBtn true)) := rfl

theorem witness_RegisterWriters : exec .init State.reset = .next State.reset := rfl

theorem witness_OnlyResetOrClearReleases :
    ((inState .run 0 VehicleInputs.zero).setInputs [.reset]).atReset = true ∧
    ((inState .run 0 VehicleInputs.zero).setInputs [.reset]).fsm ≠ .boot ∧
    (((withRecord VehicleInputs.zero).setLatch true).setInputs [.reset]).latch = true ∧
    step (((withRecord VehicleInputs.zero).setLatch true).setInputs [.reset]) = .next State.reset ∧
    State.reset.latch = false ∧ State.reset.fsm = .boot := ⟨rfl, by decide, rfl, rfl, rfl, rfl⟩

theorem witness_ReadersChangeNothing :
    (Instr.tlmBuild = .snapshot ∨ Instr.tlmBuild = .tlmBuild ∨ (∃ f, Instr.tlmBuild = .pack f) ∨
      ∃ it, Instr.tlmBuild = .unpack it) := .inr (.inl rfl)

/-- A state with the invariant that a step takes on. -/
theorem witness_InvariantKeptByEveryStep :
    (presents (Ports.ofOp 1)).Inv ∧ step (presents (Ports.ofOp 1)) = .next State.reset :=
  ⟨⟨⟨.inl rfl, rfl, rfl, rfl, rfl, rfl, rfl⟩, trivial⟩, rfl⟩

end Sys2Proof.Tests
end

section
/-! PROOF. The step on a presented command (00_scope.md R4, 20_memory.md R59). -/

namespace Sys2Proof.Proofs

open Sys2Proof.Machine

/-- Settles O4, from what a step does by what is presented (`step_of_inputs`). -/
theorem stepRunsDecodedCommand : Obligations.StepRunsDecodedCommand := by
  intro s p rest i hinputs hdecode
  obtain ⟨-, -, step_command⟩ := step_of_inputs s rest
  calc step s
      _ = exec (decode p) (s.setInputs rest) := step_command p hinputs
      _ = exec i { s with inputs := rest } := by rw [hdecode, State.setInputs]

end Sys2Proof.Proofs
end

section
/-! PROOF. What a command can do, said once: an inversion lemma of `exec` for every statement about what
commands keep (the commands of R100 to R210). -/

namespace Sys2Proof.Machine

/-- A frame received under a row's identifier does what the row does (R123, R124). -/
theorem State.receive_toFrame (s : State) (cfg : Config) (row : DispatchRow) (g : RxFrame) :
    s.receive cfg (g.toFrame row.id) = s.receiveRow cfg row g := by
  have hrow : DispatchRow.ofId (g.toFrame row.id).id = some row := DispatchRow.ofId_id row
  rw [State.receive, dispatchFrame_known cfg _ _ row hrow]
  rfl

/-- `CommandEffect s i t`: the command `i` takes the state `s` to `t`. The eight commands that deliver a frame
to the record are one case; a reserved row has none. -/
inductive CommandEffect (s : State) : Instr → State → Prop
  | init : CommandEffect s .init ((s.setRecord VehicleInputs.zero).respond .empty)
  | snapshot : CommandEffect s .snapshot (s.respond (.record s.record))
  | setStart (b : Bool) :
      CommandEffect s (.setStart b) ((s.setRecord (s.record.setStartBtn b)).respond .empty)
  | pack (f : CanFrame) : CommandEffect s (.pack f) (s.respond (.item (packItem f)))
  | unpack (it : CanQueueItem) : CommandEffect s (.unpack it) (s.respond (.frame (unpackItem it)))
  | receive (i : Instr) (f : CanFrame) (hf : receivedFrame i = some f) :
      CommandEffect s i (s.receive Config.installed f)
  | computeTorque : CommandEffect s .computeTorque (s.computeTorque Config.installed)
  | step (now : Word) : CommandEffect s (.step now) (s.controlTick Config.installed now)
  | tlmBuild : CommandEffect s .tlmBuild (s.respond (.telemetry (telemetryFrame s.record)))

/-- A command that delivers a frame receives it (R123, R133). -/
theorem exec_of_receivedFrame (i : Instr) (f : CanFrame) (s : State) (hf : receivedFrame i = some f) :
    exec i s = .next (s.receive Config.installed f) := by
  cases i <;> cases hf
  case dispatch | rxitem => rfl
  all_goals rw [State.receive_toFrame]; rfl

/-- A command of a dispatch row has the effect of receiving the row's frame. -/
theorem CommandEffect.receiveRow (s : State) (i : Instr) (row : DispatchRow) (g : RxFrame)
    (hf : receivedFrame i = some (g.toFrame row.id)) :
    CommandEffect s i (s.receiveRow Config.installed row g) :=
  s.receive_toFrame Config.installed row g ▸ .receive i _ hf

/-- `exec` answers a next state exactly as `CommandEffect` says. -/
theorem exec_eq_next_iff (i : Instr) (s t : State) : exec i s = .next t ↔ CommandEffect s i t := by
  constructor
  · intro h
    cases i with
    | init => cases h; exact .init
    | snapshot => cases h; exact .snapshot
    | setStart b => cases h; exact .setStart b
    | pack f => cases h; exact .pack f
    | unpack it => cases h; exact .unpack it
    | dispatch f => cases h; exact .receive _ f rfl
    | rxitem it => cases h; exact .receive _ (unpackItem it) rfl
    | computeTorque => cases h; exact .computeTorque
    | step now => cases h; exact .step now
    | tlmBuild => cases h; exact .tlmBuild
    | reserved0 | reservedB | reservedC => cases h
    | rxPrechargeAck g => cases h; exact .receiveRow s _ .prechargeAck g rfl
    | rxDcBusV g => cases h; exact .receiveRow s _ .dcBusV g rfl
    | rxAcc1 g => cases h; exact .receiveRow s _ .acc1 g rfl
    | rxAcc2 g => cases h; exact .receiveRow s _ .acc2 g rfl
    | rxBrake g => cases h; exact .receiveRow s _ .brake g rfl
    | rxMinCellV g => cases h; exact .receiveRow s _ .minCellV g rfl
  · intro h
    cases h with
    | receive i f hf => exact exec_of_receivedFrame i f s hf
    | _ => rfl

end Sys2Proof.Machine
end

section
/-! PROOF. The torque result (43_torque_safety.md R152 to R157): its range and its flags. -/

namespace Sys2Proof.Machine

/-- A torque result is a byte, so it keeps its range on the port (R155). -/
theorem TorqueRange.toNat_ofNat {t : Nat} (h : TorqueRange t) :
    TorqueRange (BitVec.ofNat 8 t).toNat := by
  have hbyte : t % 2 ^ 8 = t := Nat.mod_eq_of_lt (by unfold TorqueRange at h; omega)
  rwa [BitVec.toNat_ofNat, hbyte]

/-- The deadband and the saturation leave a torque in range (R152). -/
theorem torqueRange_deadband (t : Nat) : TorqueRange (deadband t) := by
  obtain ⟨-, hzero⟩ | ⟨hlow, hhigh, hsame⟩ | ⟨-, hfull⟩ := deadband_cases t
  · exact .inl hzero
  · exact .inr (.inl (hsame.symm ▸ ⟨hlow, hhigh⟩))
  · exact .inr (.inr hfull)

@[simp] theorem tseReply_ev23 (cfg : Config) (r : VehicleInputs) (latch : Bool) :
    (tseReply cfg r latch).ev23 = tseLatch cfg r latch := rfl
@[simp] theorem tseReply_t1189 (cfg : Config) (r : VehicleInputs) (latch : Bool) :
    (tseReply cfg r latch).t1189 = false := rfl

/-- While LATCH' is set the torque is forced to 0 (R154). -/
theorem tseReply_pct_of_latched {cfg : Config} {r : VehicleInputs} {latch : Bool}
    (h : tseLatch cfg r latch = true) : (tseReply cfg r latch).pct = 0 := by
  simp [tseReply, h]

/-- While LATCH' is clear the torque is the computed one (R152, R154). -/
theorem tseReply_pct_of_unlatched {cfg : Config} {r : VehicleInputs} {latch : Bool}
    (h : tseLatch cfg r latch = false) :
    (tseReply cfg r latch).pct = BitVec.ofNat 8 (computedTorque cfg r) := by
  simp [tseReply, h]

/-- A torque result is in range, latched or not (R155). -/
theorem torqueRange_tseReply_pct (cfg : Config) (r : VehicleInputs) (latch : Bool) :
    TorqueRange (tseReply cfg r latch).pct.toNat := by
  cases hlatch : tseLatch cfg r latch with
  | true => rw [tseReply_pct_of_latched hlatch]; exact .inl rfl
  | false =>
    rw [tseReply_pct_of_unlatched hlatch]
    exact (torqueRange_deadband _).toNat_ofNat

end Sys2Proof.Machine
end

section
/-! PROOF. The invariant of the machine, operation by operation: first the record (10_state.md R24, R26, R27),
then the responses (R84, R87, R120), then a command and a step. -/

namespace Sys2Proof.Machine

/-! ### The record -/

/-- The record of zeros meets the invariant (R35). -/
theorem VehicleInputs.Inv.zero : VehicleInputs.zero.Inv :=
  { torque := .inl rfl, t1189 := rfl, invState := rfl, invTemp0 := rfl, invTemp1 := rfl, invTemp2 := rfl
    invRpm := rfl }

section
variable {r : VehicleInputs} (h : r.Inv)
include h

/-- SET_START keeps the invariant of the record (R104). -/
theorem VehicleInputs.Inv.setStartBtn (b : Bool) : (r.setStartBtn b).Inv := { h with }

/-- The write-back of a torque in range, with T11.8.9 at 0, keeps the invariant of the record (R189). -/
theorem VehicleInputs.Inv.writeBack {tq : Byte} (htq : TorqueRange tq.toNat) (ev : Bool) :
    (r.writeBack tq ev false).Inv := { h with torque := htq, t1189 := rfl }

/-- No dispatch row writes a field that the invariant speaks of (R125 to R130). -/
theorem VehicleInputs.Inv.assignRow (row : DispatchRow) (data : Payload) :
    (assignRow row data r).Inv := by
  cases row <;> exact { h with }

/-- A frame of a known row keeps the invariant of the record, ignored or not. -/
theorem VehicleInputs.Inv.dispatchRow (cfg : Config) (row : DispatchRow) (dlc : Byte) (data : Payload) :
    (dispatchRow cfg row dlc data r).Inv := by
  obtain ⟨-, hsame⟩ | ⟨-, -, -, hsame⟩ | ⟨-, -, hassign⟩ := dispatchRow_cases cfg row dlc data r
  · rwa [hsame]
  · rwa [hsame]
  · rw [hassign]; exact h.assignRow row data

/-- A received frame keeps the invariant of the record, whatever its identifier (R123, R131). -/
theorem VehicleInputs.Inv.dispatchFrame (cfg : Config) (f : CanFrame) :
    (dispatchFrame cfg f r).Inv := by
  cases hid : DispatchRow.ofId f.id with
  | none => rwa [dispatchFrame_unknown cfg f r hid]
  | some row =>
    rw [dispatchFrame_known cfg f r row hid]
    exact h.dispatchRow cfg row f.dlc f.data

end

/-! ### The responses -/

/-- PACK leaves byte 7 at 0 and byte 6 at 0 or 1 (R120). -/
theorem packItem_inv (f : CanFrame) : (Response.item (packItem f)).Inv := by
  refine ⟨rfl, ?_⟩
  cases hext : f.ext with
  | false => exact .inl (congrArg flagByte hext)
  | true => exact .inr (congrArg flagByte hext)

/-- A torque result meets the invariant of the responses (R154, R155, R157). -/
theorem tseReply_inv (cfg : Config) (r : VehicleInputs) (latch : Bool) :
    (Response.torque (tseReply cfg r latch)).Inv :=
  ⟨torqueRange_tseReply_pct cfg r latch, tseReply_t1189 cfg r latch, tseReply_pct_of_latched⟩

/-- The status frame of a record with the invariant: bytes 0 and 13 carry fields held at 0, bytes 16 to 31
nothing (R87, R210). -/
theorem telemetryFrame_inv {r : VehicleInputs} (h : r.Inv) :
    (Response.telemetry (telemetryFrame r)).Inv := by
  refine ⟨h.torque, h.invState, congrArg flagByte h.t1189, ?_⟩
  intro k hk hunused
  interval_cases k <;> rfl

/-- An empty batch with a torque in range meets the invariant (R180). -/
theorem ControlOutput.start_inv {tq : Byte} (h : TorqueRange tq.toNat) : (ControlOutput.start tq).Inv where
  count := Nat.zero_le 1
  unused k hk _ := by simp
  torque := h

/-- The first frame goes to slot 0, so the batch keeps the invariant (R188). -/
theorem ControlOutput.Inv.append_first {o : ControlOutput} (h : o.Inv) (hempty : o.count.val = 0)
    (f : CanFrame) : (o.append f).Inv := by
  rw [ControlOutput.append_of_lt o f (by omega)]
  refine { count := by simp [hempty], unused := ?_, torque := h.torque }
  intro k hk hunused
  have hslot : o.count.val ≠ k := Nat.ne_of_lt hunused
  calc (o.frames.set o.count.val f)[k]
      _ = o.frames[k] := Vector.getElem_set_ne _ _ hslot
      _ = zeroFrame := h.unused k hk (Nat.le_of_lt hunused)

/-- A tick's output meets the invariant: no frame, or one in RUN (R188). -/
theorem controlOutput_inv (cfg : Config) (q : FsmState) {tq : Byte} (h : TorqueRange tq.toNat) :
    (controlOutput cfg q tq).Inv := by
  have hstart := ControlOutput.start_inv h
  cases q with
  | run => exact hstart.append_first rfl _
  | _ => exact hstart

/-! ### A command and a step -/

/-- After hardware reset the invariant holds, whatever came before (R250). -/
theorem State.hardReset_inv (s : State) : s.hardReset.Inv := ⟨.zero, trivial⟩

/-- What the host presents is no part of the invariant. -/
theorem State.Inv.setInputs {s : State} (h : s.Inv) (rest : List PortInput) : (s.setInputs rest).Inv :=
  ⟨h.record, h.response⟩

/-- Every command keeps the invariant. -/
theorem CommandEffect.keeps_inv {s t : State} {i : Instr} (heff : CommandEffect s i t) (h : s.Inv) :
    t.Inv := by
  obtain ⟨hrec, -⟩ := h
  have htq := torqueRange_tseReply_pct Config.installed s.record s.latch
  cases heff with
  | init => exact ⟨.zero, trivial⟩
  | snapshot => exact ⟨hrec, hrec⟩
  | setStart b => exact ⟨hrec.setStartBtn b, trivial⟩
  | pack f => exact ⟨hrec, packItem_inv f⟩
  | unpack it => exact ⟨hrec, trivial⟩
  | receive i f hf => exact ⟨hrec.dispatchFrame _ f, trivial⟩
  | computeTorque => exact ⟨hrec, tseReply_inv _ _ _⟩
  | step now => exact ⟨hrec.writeBack htq _, controlOutput_inv _ s.fsm htq⟩
  | tlmBuild => exact ⟨hrec, telemetryFrame_inv hrec⟩

end Sys2Proof.Machine

namespace Sys2Proof.Proofs

open Sys2Proof.Machine

/-- Settles O54, by the three things a step can do (`step_cases`). -/
theorem invariantKeptByEveryStep : Obligations.InvariantKeptByEveryStep := by
  intro s t hinv hstep
  obtain ⟨-, rfl⟩ | ⟨rest, -, rfl⟩ | ⟨p, rest, -, hexec⟩ := step_cases s t hstep
  · exact hinv
  · exact State.hardReset_inv _
  · have heff := (exec_eq_next_iff _ _ _).1 hexec
    exact heff.keeps_inv (hinv.setInputs rest)

end Sys2Proof.Proofs
end

section
/-! PROOF. Who writes LATCH, FSM and R2D_T0 (10_state.md R29, R30, R31). -/

namespace Sys2Proof.Machine

/-- A tick keeps R2D_T0, or it enters R2D_DELAY and takes the tick's time (R31, R184). -/
theorem r2dT0Next_cases (cfg : Config) (r : VehicleInputs) (t0 now : Word) (q : FsmState) :
    r2dT0Next cfg r t0 now q = t0 ∨
    (q = .waitStartBrake ∧ fsmNext cfg r t0 now q = .r2dDelay ∧ r2dT0Next cfg r t0 now q = now) := by
  cases q with
  | waitStartBrake =>
    cases hguard : startGuard cfg r with
    | false => exact .inl (by simp [r2dT0Next, hguard])
    | true => exact .inr ⟨rfl, by simp [fsmNext, hguard], by simp [r2dT0Next, hguard]⟩
  | _ => exact .inl rfl

end Sys2Proof.Machine

namespace Sys2Proof.Proofs

open Sys2Proof.Machine

/-- Settles O51: of what a command can do (`CommandEffect`), only COMPUTE_TORQUE and STEP reach a register. -/
theorem registerWriters : Obligations.RegisterWriters := by
  intro i s t hexec
  cases (exec_eq_next_iff i s t).1 hexec with
  | computeTorque => exact ⟨.inr ⟨rfl, rfl⟩, .inl rfl, .inl rfl, rfl⟩
  | step now =>
    refine ⟨.inr ⟨rfl, rfl⟩, .inr ⟨now, rfl⟩, ?_, rfl⟩
    obtain hkept | ⟨hfrom, hto, htime⟩ :=
      r2dT0Next_cases Config.installed s.record s.r2dT0 now s.fsm
    · exact .inl hkept
    · exact .inr ⟨now, rfl, hfrom, hto, htime⟩
  | _ => exact ⟨.inl rfl, .inl rfl, .inl rfl, rfl⟩

end Sys2Proof.Proofs
end

section
/-! PROOF. The state after reset (10_state.md R35) and the codes of the FSM states (R30). -/

namespace Sys2Proof.Machine

/-- The FSM state of a 3-bit code; 6 and 7 are no state's (R30). -/
def FsmState.ofCode (c : BitVec 3) : Option FsmState :=
  match c with
  | 0#3 => some .boot
  | 1#3 => some .waitPrechargeAck
  | 2#3 => some .waitStartBrake
  | 3#3 => some .r2dDelay
  | 4#3 => some .ready
  | 5#3 => some .run
  | _   => none

/-- A state is read back from its code. -/
@[simp] theorem FsmState.ofCode_code (q : FsmState) : FsmState.ofCode q.code = some q := by
  cases q <;> rfl

/-- Different states have different codes (R30). -/
theorem FsmState.code_injective : Function.Injective FsmState.code := by
  intro a b hcode
  have hread : some a = some b := by rw [← ofCode_code a, hcode, ofCode_code]
  exact Option.some.inj hread

/-- A code that reads as no state is no state's code. -/
theorem FsmState.code_ne_of_ofCode_eq_none {c : BitVec 3} (h : FsmState.ofCode c = none) (q : FsmState) :
    q.code ≠ c := by
  rintro rfl
  simp at h

end Sys2Proof.Machine

namespace Sys2Proof.Proofs

open Sys2Proof.Machine

/-- Settles O1, each element by the definition of the reset state. -/
theorem resetValues : Obligations.ResetValues :=
  ⟨rfl, rfl, rfl, rfl, rfl⟩

/-- Settles O55: the record of zeros meets the invariant, and an empty response asks nothing. -/
theorem invariantAtReset : Obligations.InvariantAtReset :=
  ⟨VehicleInputs.Inv.zero, trivial⟩

/-- Settles O56: the codes by the table, the rest because a code is read back (`FsmState.ofCode_code`). -/
theorem fsmCodes : Obligations.FsmCodes := by
  refine ⟨rfl, rfl, rfl, rfl, rfl, rfl, fun a b hcode => FsmState.code_injective hcode, fun a => ⟨?_, ?_⟩⟩
  · exact FsmState.code_ne_of_ofCode_eq_none rfl a
  · exact FsmState.code_ne_of_ofCode_eq_none rfl a

end Sys2Proof.Proofs
end

section
/-! PROOF. Byte order (20_memory.md R53, 30_encoding.md R87) and the commands that only read (R57). -/

namespace Sys2Proof.Machine

/-- The two byte orders assemble the same values from opposite byte positions (R83). -/
theorem be16_eq_le16 (b0 b1 : Byte) : be16 b0 b1 = le16 b1 b0 := rfl

/-- The low byte of an assembled big-endian field is the second to arrive (R53). -/
@[simp] theorem byteOf_be16_zero (b0 b1 : Byte) : byteOf (be16 b0 b1) 0 = b1 := by
  rw [be16_eq_le16, byteOf_le16_zero]

/-- The high byte of an assembled big-endian field is the first to arrive (R53). -/
@[simp] theorem byteOf_be16_one (b0 b1 : Byte) : byteOf (be16 b0 b1) 1 = b0 := by
  rw [be16_eq_le16, byteOf_le16_one]

/-- A frame whose DLC is taken writes its row's field (R123, R131, R132). -/
theorem dispatchRow_of_dlcTaken {cfg : Config} {row : DispatchRow} {dlc : Byte}
    (h : DlcTaken cfg row.need dlc) (data : Payload) (r : VehicleInputs) :
    dispatchRow cfg row dlc data r = assignRow row data r := by
  obtain ⟨hrange, hlong⟩ := h
  obtain ⟨hover, -⟩ | ⟨-, hcheck, hshort, -⟩ | ⟨-, -, hassign⟩ := dispatchRow_cases cfg row dlc data r
  · omega
  · have hneed := hlong hcheck
    omega
  · exact hassign

/-- The status frame carries the low byte of the cell voltage at byte 4 (R87). -/
theorem telemetryFrame_minCellV_low (r : VehicleInputs) :
    (telemetryFrame r)[4] = byteOf r.minCellV 0 := rfl

/-- The status frame carries the high byte of the cell voltage at byte 5 (R87). -/
theorem telemetryFrame_minCellV_high (r : VehicleInputs) :
    (telemetryFrame r)[5] = byteOf r.minCellV 1 := rfl

/-- A cell voltage frame whose DLC is taken sets the cell voltage to its big-endian value (R130). -/
theorem State.receiveRow_minCellV {cfg : Config} {g : RxFrame} (h : DlcTaken cfg 2 g.dlc) (s : State) :
    (s.receiveRow cfg .minCellV g).record.minCellV = be16 g.data[0] g.data[1] := by
  rw [State.receiveRow_record, dispatchRow_of_dlcTaken (row := .minCellV) h, assignRow_minCellV]

end Sys2Proof.Machine

namespace Sys2Proof.Proofs

open Sys2Proof.Machine

/-- Settles O47: the big-endian assembly (`State.receiveRow_minCellV`) read back byte by byte, low byte first. -/
theorem cellVoltageChangesByteOrder : Obligations.CellVoltageChangesByteOrder := by
  intro g s hdlc
  have hcell := State.receiveRow_minCellV hdlc s
  refine ⟨s.receiveRow Config.installed .minCellV g, _, _, rfl, rfl, rfl, ?_, ?_⟩
  · rw [telemetryFrame_minCellV_low, hcell, byteOf_be16_zero]
  · rw [telemetryFrame_minCellV_high, hcell, byteOf_be16_one]

/-- Settles O53: each of the four has no effect (`CommandEffect`) but its response. -/
theorem readersChangeNothing : Obligations.ReadersChangeNothing := by
  rintro i s (rfl | rfl | ⟨f, rfl⟩ | ⟨it, rfl⟩)
  · exact ⟨.record s.record, (exec_eq_next_iff _ _ _).2 .snapshot⟩
  · exact ⟨.telemetry (telemetryFrame s.record), (exec_eq_next_iff _ _ _).2 .tlmBuild⟩
  · exact ⟨.item (packItem f), (exec_eq_next_iff _ _ _).2 (.pack f)⟩
  · exact ⟨.frame (unpackItem it), (exec_eq_next_iff _ _ _).2 (.unpack it)⟩

end Sys2Proof.Proofs
end

section
/-! PROOF. The bits on the ports: byte vectors (30_encoding.md R74, R79), frames (R80) and the batch of frames
(R84), each read back field by field, and the reads that lose no bit. -/

namespace Sys2Proof

/-! ### Parts of a concatenation -/

/-- Bits that lie above the low part of a concatenation are bits of its high part. -/
theorem extractLsb'_append_above {v w : Nat} (hi : BitVec v) (lo : BitVec w) (start len : Nat) :
    (hi ++ lo).extractLsb' (start + w) len = hi.extractLsb' start len := by
  rw [BitVec.extractLsb'_append_eq_of_le (Nat.le_add_left w start), Nat.add_sub_cancel]

/-- A bit above the low part of a concatenation is a bit of its high part. -/
theorem getLsbD_append_above {v w : Nat} (hi : BitVec v) (lo : BitVec w) (i : Nat) :
    (hi ++ lo).getLsbD (i + w) = hi.getLsbD i := by
  rw [BitVec.getLsbD_append, if_neg (by omega), Nat.add_sub_cancel]

/-- A flag at the low end of a concatenation is its bit 0. -/
theorem getLsbD_append_ofBool {v : Nat} (hi : BitVec v) (b : Bool) :
    (hi ++ BitVec.ofBool b).getLsbD 0 = b := by
  rw [BitVec.getLsbD_append, if_pos Nat.one_pos]
  cases b <;> rfl

/-- Words that agree on a range of bits agree on each bit of it. -/
theorem getLsbD_eq_of_extractLsb'_eq {n start len i : Nat} {x y : BitVec n}
    (h : x.extractLsb' start len = y.extractLsb' start len) (hlow : start ≤ i) (hhigh : i < start + len) :
    x.getLsbD i = y.getLsbD i := by
  have hbit : (x.extractLsb' start len).getLsbD (i - start) = (y.extractLsb' start len).getLsbD (i - start) := by
    rw [h]
  have hi : i - start < len := by omega
  simpa [hi, Nat.add_sub_cancel' hlow] using hbit

/-! ### Byte vectors (R74) -/

/-- A byte vector is read back from its port. -/
@[simp] theorem bytesOfBits_bytesToBits {n : Nat} (v : Vector Byte n) : bytesOfBits (bytesToBits v) = v :=
  Vector.ext fun k hk => (bytesOfBits_getElem _ k hk).trans (laneOf_bytesToBits v k hk)

/-- The bytes of a port are all of its bits. -/
theorem bytesOfBits_injective {n : Nat} : Function.Injective (bytesOfBits (n := n)) := by
  intro x y h
  refine BitVec.eq_of_getLsbD_eq fun i hi => ?_
  have hbyte : i / 8 < n := by omega
  have hlane : laneOf 8 x (i / 8) = laneOf 8 y (i / 8) := by
    rw [← bytesOfBits_getElem x _ hbyte, h, bytesOfBits_getElem]
  exact getLsbD_eq_of_extractLsb'_eq hlane (by omega) (by omega)

/-- A port is the layout of the bytes read from it. -/
@[simp] theorem bytesToBits_bytesOfBits {n : Nat} (x : BitVec (8 * n)) : bytesToBits (bytesOfBits x) = x :=
  bytesOfBits_injective (bytesOfBits_bytesToBits _)

/-- An item is read back from its port (R79). -/
@[simp] theorem itemOfBits_itemToBits (it : CanQueueItem) : itemOfBits (itemToBits it) = it :=
  bytesOfBits_bytesToBits it

/-- The item port is the layout of the item read from it (R79). -/
@[simp] theorem itemToBits_itemOfBits (x : BitVec 128) : itemToBits (itemOfBits x) = x :=
  bytesToBits_bytesOfBits (n := 16) x

/-! ### Frames (R80) -/

section
variable (f : CanFrame)

/-- `bus` is at [7:0]. -/
theorem frameToBits_bus : (frameToBits f).extractLsb' 0 8 = f.bus :=
  BitVec.extractLsb'_append_eq_right

/-- `id` is at [39:8]. -/
theorem frameToBits_id : (frameToBits f).extractLsb' 8 32 = f.id :=
  (extractLsb'_append_above _ f.bus 0 32).trans BitVec.extractLsb'_append_eq_right

/-- `dlc` is at [47:40]. -/
theorem frameToBits_dlc : (frameToBits f).extractLsb' 40 8 = f.dlc :=
  calc (frameToBits f).extractLsb' 40 8
    _ = (bytesToBits f.data ++ BitVec.ofBool f.ext ++ f.dlc ++ f.id).extractLsb' 32 8 :=
      extractLsb'_append_above _ f.bus 32 8
    _ = (bytesToBits f.data ++ BitVec.ofBool f.ext ++ f.dlc).extractLsb' 0 8 :=
      extractLsb'_append_above _ f.id 0 8
    _ = f.dlc := BitVec.extractLsb'_append_eq_right

/-- `ext` is bit 48. -/
theorem frameToBits_ext : (frameToBits f).getLsbD 48 = f.ext :=
  calc (frameToBits f).getLsbD 48
    _ = (bytesToBits f.data ++ BitVec.ofBool f.ext ++ f.dlc ++ f.id).getLsbD 40 :=
      getLsbD_append_above _ f.bus 40
    _ = (bytesToBits f.data ++ BitVec.ofBool f.ext ++ f.dlc).getLsbD 8 := getLsbD_append_above _ f.id 8
    _ = (bytesToBits f.data ++ BitVec.ofBool f.ext).getLsbD 0 := getLsbD_append_above _ f.dlc 0
    _ = f.ext := getLsbD_append_ofBool _ f.ext

/-- `data[k]` is at [56+8k : 49+8k]. -/
theorem frameToBits_data (k : Nat) (hk : k < 8) :
    (frameToBits f).extractLsb' (49 + 8 * k) 8 = f.data[k] :=
  calc (frameToBits f).extractLsb' (49 + 8 * k) 8
    _ = (frameToBits f).extractLsb' (8 * k + 49) 8 := by rw [Nat.add_comm]
    _ = (bytesToBits f.data ++ BitVec.ofBool f.ext ++ f.dlc ++ f.id).extractLsb' (8 * k + 41) 8 :=
      extractLsb'_append_above _ f.bus _ 8
    _ = (bytesToBits f.data ++ BitVec.ofBool f.ext ++ f.dlc).extractLsb' (8 * k + 9) 8 :=
      extractLsb'_append_above _ f.id _ 8
    _ = (bytesToBits f.data ++ BitVec.ofBool f.ext).extractLsb' (8 * k + 1) 8 :=
      extractLsb'_append_above _ f.dlc _ 8
    _ = (bytesToBits f.data).extractLsb' (8 * k) 8 :=
      extractLsb'_append_above _ (BitVec.ofBool f.ext) _ 8
    _ = f.data[k] := laneOf_bytesToBits f.data k hk

/-- A frame is read back from its port. -/
@[simp] theorem frameOfBits_frameToBits : frameOfBits (frameToBits f) = f := by
  have hdata : (Vector.ofFn fun k : Fin 8 => (frameToBits f).extractLsb' (49 + 8 * k.val) 8) = f.data :=
    Vector.ext fun k hk => by rw [Vector.getElem_ofFn, frameToBits_data f k hk]
  rw [frameOfBits, hdata, frameToBits_bus, frameToBits_id, frameToBits_dlc, frameToBits_ext]

end

/-- The fields of a frame are all 113 bits of its port. -/
theorem frameOfBits_injective : Function.Injective frameOfBits := by
  intro x y h
  have hbus : x.extractLsb' 0 8 = y.extractLsb' 0 8 := congrArg CanFrame.bus h
  have hid : x.extractLsb' 8 32 = y.extractLsb' 8 32 := congrArg CanFrame.id h
  have hdlc : x.extractLsb' 40 8 = y.extractLsb' 40 8 := congrArg CanFrame.dlc h
  have hext : x.getLsbD 48 = y.getLsbD 48 := congrArg CanFrame.ext h
  have hdata (k : Nat) (hk : k < 8) : x.extractLsb' (49 + 8 * k) 8 = y.extractLsb' (49 + 8 * k) 8 := by
    simpa [frameOfBits] using congrArg (fun f : CanFrame => f.data[k]) h
  refine BitVec.eq_of_getLsbD_eq fun i hi => ?_
  obtain hrange | hrange | hrange | rfl | hrange :
      i < 8 ∨ (8 ≤ i ∧ i < 40) ∨ (40 ≤ i ∧ i < 48) ∨ i = 48 ∨ 49 ≤ i := by omega
  · exact getLsbD_eq_of_extractLsb'_eq hbus (by omega) (by omega)
  · exact getLsbD_eq_of_extractLsb'_eq hid (by omega) (by omega)
  · exact getLsbD_eq_of_extractLsb'_eq hdlc (by omega) (by omega)
  · exact hext
  · exact getLsbD_eq_of_extractLsb'_eq (hdata ((i - 49) / 8) (by omega)) (by omega) (by omega)

/-- The frame port is the layout of the frame read from it. -/
@[simp] theorem frameToBits_frameOfBits (x : BitVec 113) : frameToBits (frameOfBits x) = x :=
  frameOfBits_injective (frameOfBits_frameToBits _)

/-! ### The batch of frames (R84) -/

namespace Machine

variable (o : ControlOutput)

/-- `count` is at [3:0]. -/
theorem controlToBits_count : (controlToBits o).extractLsb' 0 4 = BitVec.ofNat 4 o.count.val :=
  BitVec.extractLsb'_append_eq_right

/-- `torque` is at [11:4]. -/
theorem controlToBits_torque : (controlToBits o).extractLsb' 4 8 = o.torque :=
  (extractLsb'_append_above _ (BitVec.ofNat 4 o.count.val) 0 8).trans BitVec.extractLsb'_append_eq_right

/-- Frame `k` is at [124+113k : 12+113k]. -/
theorem controlToBits_frame (k : Nat) (hk : k < 8) :
    (controlToBits o).extractLsb' (12 + 113 * k) 113 = frameToBits o.frames[k] :=
  calc (controlToBits o).extractLsb' (12 + 113 * k) 113
    _ = (controlToBits o).extractLsb' (113 * k + 12) 113 := by rw [Nat.add_comm]
    _ = (lanesToBits (o.frames.map frameToBits) ++ o.torque).extractLsb' (113 * k + 8) 113 :=
      extractLsb'_append_above _ (BitVec.ofNat 4 o.count.val) _ 113
    _ = (lanesToBits (o.frames.map frameToBits)).extractLsb' (113 * k) 113 :=
      extractLsb'_append_above _ o.torque _ 113
    _ = (o.frames.map frameToBits)[k] := laneOf_lanesToBits _ k hk
    _ = frameToBits o.frames[k] := Vector.getElem_map frameToBits hk

end Machine

end Sys2Proof

namespace Sys2Proof.Proofs

open Sys2Proof.Machine

/-- Settles O10: the five fields by their lemmas, and all bits because the fields determine the port
(`frameOfBits_injective`). -/
theorem frameBitLayout : Obligations.FrameBitLayout :=
  ⟨fun f => ⟨frameToBits_bus f, frameToBits_id f, frameToBits_dlc f, frameToBits_ext f, frameToBits_data f⟩,
    frameToBits_frameOfBits⟩

/-- Settles O11, the lanes of a byte vector (`laneOf_bytesToBits`, `bytesOfBits_getElem`) at 16 and 32 bytes. -/
theorem byteLanes : Obligations.ByteLanes :=
  ⟨laneOf_bytesToBits, bytesOfBits_getElem (n := 16), laneOf_bytesToBits⟩

/-- Settles O12, field by field. -/
theorem controlOutputBits : Obligations.ControlOutputBits :=
  fun o => ⟨controlToBits_count o, controlToBits_torque o, controlToBits_frame o⟩

end Sys2Proof.Proofs
end

section
/-! PROOF. The decoder and the encoder (30_encoding.md R70, R72, R75): the 16 op values by name, what each
decodes to, and the round trips. -/

namespace Sys2Proof

/-! ### The decoder by op (R70) -/

/-- The 16 op values by name; 0xC to 0xF are one row of the opcode table (R88). -/
theorem op_cases {motive : BitVec 4 → Prop} (reserved0 : motive 0x0#4) (init : motive 0x1#4)
    (snapshot : motive 0x2#4) (setStart : motive 0x3#4) (pack : motive 0x4#4) (unpack : motive 0x5#4)
    (dispatch : motive 0x6#4) (rxitem : motive 0x7#4) (computeTorque : motive 0x8#4) (step : motive 0x9#4)
    (tlmBuild : motive 0xA#4) (reservedB : motive 0xB#4) (reservedC : motive 0xC#4)
    (reservedD : motive 0xD#4) (reservedE : motive 0xE#4) (reservedF : motive 0xF#4) (op : BitVec 4) :
    motive op := by
  have hop : op = 0x0#4 ∨ op = 0x1#4 ∨ op = 0x2#4 ∨ op = 0x3#4 ∨ op = 0x4#4 ∨ op = 0x5#4 ∨ op = 0x6#4 ∨
      op = 0x7#4 ∨ op = 0x8#4 ∨ op = 0x9#4 ∨ op = 0xA#4 ∨ op = 0xB#4 ∨ op = 0xC#4 ∨ op = 0xD#4 ∨
      op = 0xE#4 ∨ op = 0xF#4 := by
    revert op
    decide
  obtain rfl | rfl | rfl | rfl | rfl | rfl | rfl | rfl | rfl | rfl | rfl | rfl | rfl | rfl | rfl | rfl := hop
  all_goals assumption

/-- A reserved op of the row 0xC to 0xF is its two high bits above the two that the row keeps (R88). -/
theorem reserved_op (op : BitVec 4) (h : 0xC ≤ op.toNat) : 0x3#2 ++ op.extractLsb' 0 2 = op := by
  revert op
  decide

/-- The button on its port is the port's bit (R72). -/
@[simp] theorem ofBool_getLsbD_zero (bit : BitVec 1) : BitVec.ofBool (bit.getLsbD 0) = bit := by
  revert bit
  decide

/-- The bit of a one-bit port says whether the port is 1 (R72). -/
theorem getLsbD_zero_eq_decide (bit : BitVec 1) : bit.getLsbD 0 = decide (bit = 1#1) := by
  revert bit
  decide

/-! ### DISPATCH, whichever row its identifier has (R81) -/

section
variable {f : CanFrame}

/-- A frame of a known identifier decodes to its row's instruction. -/
theorem decodeDispatch_known {row : DispatchRow} (h : DispatchRow.ofId f.id = some row) :
    decodeDispatch f = row.instr f.toRx := by
  rw [decodeDispatch, h]

/-- A frame of an unknown identifier decodes to `dispatch` itself. -/
theorem decodeDispatch_unknown (h : DispatchRow.ofId f.id = none) : decodeDispatch f = .dispatch f := by
  rw [decodeDispatch, h]

end

/-- A row's instruction is encoded as the DISPATCH of its frame. -/
@[simp] theorem encode_rowInstr (row : DispatchRow) (g : RxFrame) :
    encode (row.instr g) = encode (.dispatch (g.toFrame row.id)) := by
  cases row <;> rfl

/-- A row's instruction is well formed. -/
@[simp] theorem wf_rowInstr (row : DispatchRow) (g : RxFrame) : (row.instr g).wf = true := by
  cases row <;> rfl

/-- A row's instruction delivers its frame to the record. -/
@[simp] theorem receivedFrame_rowInstr (row : DispatchRow) (g : RxFrame) :
    Machine.receivedFrame (row.instr g) = some (g.toFrame row.id) := by
  cases row <;> rfl

/-- What a DISPATCH command decodes to is well formed, is encoded as that command, and delivers its frame. -/
theorem decodeDispatch_spec (f : CanFrame) :
    (decodeDispatch f).wf = true ∧ encode (decodeDispatch f) = encode (.dispatch f) ∧
      Machine.receivedFrame (decodeDispatch f) = some f := by
  cases hrow : DispatchRow.ofId f.id with
  | none =>
    rw [decodeDispatch_unknown hrow]
    exact ⟨by rw [Instr.wf, CanFrame.unmapped, hrow]; rfl, rfl, rfl⟩
  | some row =>
    have hframe : f.toRx.toFrame row.id = f := by
      rw [← (DispatchRow.ofId_eq_some_iff f.id row).1 hrow, Machine.frame_toRx_toFrame]
    rw [decodeDispatch_known hrow, encode_rowInstr, receivedFrame_rowInstr, hframe]
    exact ⟨wf_rowInstr row _, rfl, rfl⟩

/-- A DISPATCH command decodes by the frame it carries. -/
theorem decode_encode_dispatch (f : CanFrame) : decode (encode (.dispatch f)) = decodeDispatch f :=
  congrArg decodeDispatch (frameOfBits_frameToBits f)

/-- A row's instruction is read back from its ports. -/
theorem decode_encode_rowInstr (row : DispatchRow) (g : RxFrame) :
    decode (encode (row.instr g)) = row.instr g := by
  have hrow : DispatchRow.ofId (g.toFrame row.id).id = some row := DispatchRow.ofId_id row
  rw [encode_rowInstr, decode_encode_dispatch, decodeDispatch_known hrow, Machine.rx_toFrame_toRx]

/-! ### The round trips -/

/-- A well-formed instruction is read back from its ports (R75). -/
theorem decode_encode {i : Instr} (h : i.wf = true) : decode (encode i) = i := by
  cases i with
  | setStart b => cases b <;> rfl
  | pack f => exact congrArg Instr.pack (frameOfBits_frameToBits f)
  | unpack it => exact congrArg Instr.unpack (itemOfBits_itemToBits it)
  | rxitem it => exact congrArg Instr.rxitem (itemOfBits_itemToBits it)
  | dispatch f =>
    have hunknown : DispatchRow.ofId f.id = none := Option.isNone_iff_eq_none.1 h
    rw [decode_encode_dispatch, decodeDispatch_unknown hunknown]
  | reservedC low => revert low; decide
  | rxPrechargeAck g => exact decode_encode_rowInstr .prechargeAck g
  | rxDcBusV g => exact decode_encode_rowInstr .dcBusV g
  | rxAcc1 g => exact decode_encode_rowInstr .acc1 g
  | rxAcc2 g => exact decode_encode_rowInstr .acc2 g
  | rxBrake g => exact decode_encode_rowInstr .brake g
  | rxMinCellV g => exact decode_encode_rowInstr .minCellV g
  | _ => rfl

/-- What the decoder answers is well formed, and is encoded as the ports it was read from, those the op does
not use at 0 (R72, R75). -/
theorem decode_spec (p : Ports) : (decode p).wf = true ∧ encode (decode p) = p.used := by
  obtain ⟨op, bit, now, item, frame⟩ := p
  cases op using op_cases with
  | setStart => exact ⟨rfl, congrArg (fun x => { Ports.ofOp 0x3#4 with bit := x }) (ofBool_getLsbD_zero bit)⟩
  | pack =>
    exact ⟨rfl, congrArg (fun x => { Ports.ofOp 0x4#4 with frame := x }) (frameToBits_frameOfBits frame)⟩
  | unpack =>
    exact ⟨rfl, congrArg (fun x => { Ports.ofOp 0x5#4 with item := x }) (itemToBits_itemOfBits item)⟩
  | rxitem =>
    exact ⟨rfl, congrArg (fun x => { Ports.ofOp 0x7#4 with item := x }) (itemToBits_itemOfBits item)⟩
  | dispatch =>
    obtain ⟨hwf, hencode, -⟩ := decodeDispatch_spec (frameOfBits frame)
    refine ⟨hwf, hencode.trans ?_⟩
    exact congrArg (fun x => { Ports.ofOp 0x6#4 with frame := x }) (frameToBits_frameOfBits frame)
  | reservedC | reservedD | reservedE | reservedF =>
    exact ⟨rfl, congrArg Ports.ofOp (reserved_op _ (by simp))⟩
  | _ => exact ⟨rfl, rfl⟩

/-- The ports an op does not use are not read (R72). -/
theorem decode_used (p : Ports) : decode p.used = decode p := by
  obtain ⟨hwf, hencode⟩ := decode_spec p
  rw [← hencode, decode_encode hwf]

end Sys2Proof

namespace Sys2Proof.Proofs

open Sys2Proof.Machine

/-- Settles O7, constructor by constructor (`decode_encode`). -/
theorem decodeOfEncode : Obligations.DecodeOfEncode :=
  fun _ hwf => decode_encode hwf

/-- Settles O8, op by op (`decode_spec`): the port of an op is the layout of the operand read from it. -/
theorem encodeOfDecode : Obligations.EncodeOfDecode :=
  decode_spec

/-- Settles O9: commands that agree on the op and on its port are one command once their other ports are at 0,
which the decoder does not see (`decode_used`). -/
theorem unusedPortsIgnored : Obligations.UnusedPortsIgnored := by
  intro p q hop hbit hframe hitem hnow
  have hused : p.used = q.used := by
    obtain ⟨op, bit, now, item, frame⟩ := p
    obtain ⟨op', bit', now', item', frame'⟩ := q
    obtain rfl : op = op' := hop
    cases op using op_cases with
    | setStart => cases hbit rfl; rfl
    | pack => cases hframe (.inl rfl); rfl
    | dispatch => cases hframe (.inr rfl); rfl
    | unpack => cases hitem (.inl rfl); rfl
    | rxitem => cases hitem (.inr rfl); rfl
    | step => cases hnow rfl; rfl
    | _ => rfl
  rw [← decode_used p, hused, decode_used q]

/-- Settles O5, op by op; the frame of op 6 is delivered whichever row it decodes to (`decodeDispatch_spec`). -/
theorem decodeByOp : Obligations.DecodeByOp := by
  rintro ⟨op, bit, now, item, frame⟩
  cases op using op_cases with
  | setStart => simpa [decode] using getLsbD_zero_eq_decide bit
  | dispatch => simp [decode, decodeDispatch_spec]
  | _ => simp [decode]

/-- Settles O6: five closed words, each decoded as written. -/
theorem writtenWordsDecode : Obligations.WrittenWordsDecode := by
  unfold Obligations.WrittenWordsDecode
  decide

end Sys2Proof.Proofs
end

section
/-! PROOF. DISPATCH (42_codec_dispatch.md R123; 30_encoding.md R82) and the reserved ops (R88) on the command
port. -/

namespace Sys2Proof.Machine

/-- A reserved op is refused with the op it carries (R88, R232). -/
theorem exec_decode_reserved {p : Ports} (hop : p.op = 0x0#4 ∨ 0xB ≤ p.op.toNat) (s : State) :
    exec (decode p) s = .refused (.reservedOp p.op) := by
  obtain ⟨hzero, -, -, -, -, -, -, -, -, -, -, hB, hC⟩ := Proofs.decodeByOp p
  obtain hop | hop | hop : p.op = 0x0#4 ∨ p.op = 0xB#4 ∨ 0xC ≤ p.op.toNat := by bv_omega
  · rw [hzero hop, hop]; rfl
  · rw [hB hop, hop]; rfl
  · calc exec (decode p) s
      _ = .refused (.reservedOp (0x3#2 ++ p.op.extractLsb' 0 2)) := by rw [hC hop]; rfl
      _ = .refused (.reservedOp p.op) := by rw [reserved_op p.op hop]

/-- A DISPATCH whose DLC is taken writes the field of its identifier's row and nothing else (R123). -/
theorem exec_dispatch_of_dlcTaken {f : CanFrame} {row : DispatchRow} (hid : f.id = row.id)
    (hdlc : DlcTaken Config.installed row.need f.dlc) (s : State) :
    exec (.dispatch f) s = .next { s with record := assignRow row f.data s.record, response := .empty } := by
  have hrow : DispatchRow.ofId f.id = some row := (DispatchRow.ofId_eq_some_iff _ _).2 hid
  rw [exec_of_receivedFrame _ f s rfl, State.receive, dispatchFrame_known _ f _ row hrow,
    dispatchRow_of_dlcTaken hdlc]
  rfl

end Sys2Proof.Machine

namespace Sys2Proof.Proofs

open Sys2Proof.Machine

/-- Settles O21: both spellings of the command receive the frame on the port (`exec_of_receivedFrame`). -/
theorem dispatchCommandOnPort : Obligations.DispatchCommandOnPort := by
  intro s p rest hinputs hop
  obtain ⟨-, -, -, -, -, -, hreceived, -⟩ := decodeByOp p
  calc step s
    _ = exec (decode p) { s with inputs := rest } := stepRunsDecodedCommand s p rest _ hinputs rfl
    _ = .next (State.receive _ Config.installed (frameOfBits p.frame)) :=
      exec_of_receivedFrame _ _ _ (hreceived hop)
    _ = exec (.dispatch (frameOfBits p.frame)) { s with inputs := rest } :=
      (exec_of_receivedFrame _ _ _ rfl).symm

/-- Settles O25: bus and format are not read, and the two examples write the field of their identifier
(`exec_dispatch_of_dlcTaken`). -/
theorem dispatchKeyIsIdentifier : Obligations.DispatchKeyIsIdentifier := by
  refine ⟨fun f bus ext s => rfl, fun f s hlong hrange => ⟨fun hid _ => ?_, fun hid _ => ?_⟩⟩
  · exact ⟨_, exec_dispatch_of_dlcTaken (row := .acc1) hid ⟨hrange, fun _ => hlong⟩ s, le16_toNat _ _⟩
  · exact ⟨_, exec_dispatch_of_dlcTaken (row := .brake) hid ⟨hrange, fun _ => hlong⟩ s, le16_toNat _ _⟩

/-- Settles O48: the three rows by their meanings, and a reserved op on the port (`exec_decode_reserved`). -/
theorem reservedOpsRefused : Obligations.ReservedOpsRefused := by
  refine ⟨fun s => rfl, fun s => rfl, fun low s => rfl, fun s p rest hinputs hop => ?_⟩
  rw [stepRunsDecodedCommand s p rest _ hinputs rfl, exec_decode_reserved hop]

end Sys2Proof.Proofs
end

section
/-! PROOF. From a line of text to the port: the lines of R91 (30_encoding.md) and the pseudo-commands (R92). -/

namespace Sys2Proof.Machine

/-! ### A line of text (R91) -/

/-- Three words with one space between them are three tokens. -/
theorem tokensFrom_three_words {name t u : List Char} (hname : name ≠ [] ∧ ∀ c ∈ name, isWordChar c = true)
    (ht : t ≠ [] ∧ ∀ c ∈ t, isWordChar c = true) (hu : u ≠ [] ∧ ∀ c ∈ u, isWordChar c = true) :
    tokensFrom [] (name ++ ' ' :: (t ++ ' ' :: u)) = [name, t, u] := by
  rw [tokensFrom_word_space _ _ hname.1 hname.2, tokensFrom_word_space _ _ ht.1 ht.2,
    tokensFrom_word _ hu.1 hu.2]

/-- A line of a mnemonic and at least one more token reads as the mnemonic's command on those tokens. -/
theorem asmLine_of_tokens {c : Char} {cs name t : List Char} {ts : List (List Char)} (hc : c ≠ ';')
    (htokens : tokensFrom [] (c :: cs) = name :: t :: ts) :
    asmLine (c :: cs) = (operandCommand name (t :: ts)).map .command := by
  unfold asmLine
  split
  · next heq => exact absurd (List.cons.inj heq).1 hc
  · rw [htokens]

/-- A text of one command presents that command. -/
theorem assemble_command {line : List Char} {i : Instr} (h : asmLine line = some (.command i)) :
    assemble [line] = some [.command (encode i)] := by
  simp [assemble, h]

/-- A line of a mnemonic and two numerals presents the mnemonic's command on them. -/
theorem assemble_two_numerals {c : Char} {cs idText vText : List Char} {id : Word} {v : Half} {i : Instr}
    (hc : c ≠ ';') (hname : (c :: cs).all isWordChar = true) (hid : numeralOf 32 idText = some id)
    (hv : numeralOf 16 vText = some v) (hcommand : operandCommand (c :: cs) [idText, vText] = some i) :
    assemble [c :: cs ++ ' ' :: (idText ++ ' ' :: vText)] = some [.command (encode i)] := by
  have htokens := tokensFrom_three_words ⟨List.cons_ne_nil c cs, List.all_eq_true.1 hname⟩
    (numeralOf_isWord _ _ _ hid) (numeralOf_isWord _ _ _ hv)
  have hline := asmLine_of_tokens hc htokens
  rw [hcommand] at hline
  exact assemble_command hline

section
variable {idText vText : List Char} {id : Word} {v : Half}
  (hid : numeralOf 32 idText = some id) (hv : numeralOf 16 vText = some v)
include hid hv

/-- An `RX16` line presents the DISPATCH of its frame, low byte first. -/
theorem assemble_rx16 :
    assemble ["RX16 ".toList ++ idText ++ ' ' :: vText] = some [.command (encode (rx16 id v))] := by
  have hcommand : operandCommand "RX16".toList [idText, vText] = some (rx16 id v) := by
    simp [operandCommand, hid, hv]
  rw [List.append_assoc]
  exact assemble_two_numerals (c := 'R') (cs := "X16".toList) (by decide) rfl hid hv hcommand

/-- An `RXBE16` line presents the DISPATCH of its frame, high byte first. -/
theorem assemble_rxBe16 :
    assemble ["RXBE16 ".toList ++ idText ++ ' ' :: vText] = some [.command (encode (rxBe16 id v))] := by
  have hcommand : operandCommand "RXBE16".toList [idText, vText] = some (rxBe16 id v) := by
    simp [operandCommand, hid, hv]
  rw [List.append_assoc]
  exact assemble_two_numerals (c := 'R') (cs := "XBE16".toList) (by decide) rfl hid hv hcommand

end

/-! ### The pseudo-commands (R92) -/

/-- The low byte of a value, as RX16 and RXBE16 take it. -/
theorem toNat_lowByte (v : Half) : (byteOf v 0).toNat = v.toNat % 256 := by
  rw [byteOf_toNat]
  omega

/-- The high byte of a value, as RX16 and RXBE16 take it. -/
theorem toNat_highByte (v : Half) : (byteOf v 1).toNat = v.toNat / 256 := by
  have hlt := v.isLt
  rw [byteOf_toNat]
  omega

/-- A DLC of 2 is taken for a field of at most 2 bytes, in every configuration. -/
theorem dlcTaken_two (cfg : Config) {need : Nat} (h : need ≤ 2) : DlcTaken cfg need 2 :=
  ⟨by decide, fun _ => h⟩

end Sys2Proof.Machine

namespace Sys2Proof.Proofs

open Sys2Proof.Machine

/-- Settles O27: the expansions by definition; their lines by their tokens (`assemble_rx16`, `assemble_rxBe16`)
and the frame read back from the port; what they write by the row of their identifier. -/
theorem pseudoCommandsExpand : Obligations.PseudoCommandsExpand := by
  refine ⟨⟨rfl, rfl, fun id v => ?_⟩, ?_, fun idText vText id v hid hv => ?_, fun v s => ⟨?_, ?_⟩⟩
  · exact ⟨byteOf v 0, byteOf v 1, toNat_lowByte v, toNat_highByte v, rfl, rfl⟩
  · exact ⟨encode pressButton, encode releaseButton, rfl, rfl, decode_encode rfl, rfl, decode_encode rfl⟩
  · exact ⟨encode (rx16 id v), encode (rxBe16 id v), byteOf v 0, byteOf v 1, toNat_lowByte v, toNat_highByte v,
      assemble_rx16 hid hv, rfl, frameOfBits_frameToBits _, assemble_rxBe16 hid hv, rfl,
      frameOfBits_frameToBits _⟩
  · have hwrite := exec_dispatch_of_dlcTaken (f := rxPairFrame 0x101#32 (byteOf v 0) (byteOf v 1))
      (row := .acc1) rfl (dlcTaken_two _ (by decide)) s
    rw [assignRow_acc1] at hwrite
    exact hwrite.trans (by simp [rxPairFrame])
  · have hwrite := exec_dispatch_of_dlcTaken (f := rxPairFrame 0x12C#32 (byteOf v 1) (byteOf v 0))
      (row := .minCellV) rfl (dlcTaken_two _ (by decide)) s
    rw [assignRow_minCellV, be16_eq_le16] at hwrite
    exact hwrite.trans (by simp [rxPairFrame])

/-- Settles O57: five closed texts, each read as written. -/
theorem exampleLinesAssemble : Obligations.ExampleLinesAssemble := by
  unfold Obligations.ExampleLinesAssemble
  decide

end Sys2Proof.Proofs
end

section
/-! PROOF. The response ports (30_encoding.md R73, R84, R86) and the inverter command frame (R85). -/

namespace Sys2Proof.Machine

section
variable (t : TorqueReply)

/-- `pct` is at [7:0] of `tq_out` (R73). -/
theorem torqueToBits_pct : (torqueToBits t).extractLsb' 0 8 = t.pct :=
  BitVec.extractLsb'_append_eq_right

/-- `ev23` is bit 8 of `tq_out` (R73). -/
theorem torqueToBits_ev23 : (torqueToBits t).getLsbD 8 = t.ev23 :=
  (getLsbD_append_above _ t.pct 0).trans (getLsbD_append_ofBool _ t.ev23)

/-- `t1189` is bit 9 of `tq_out` (R73). -/
theorem torqueToBits_t1189 : (torqueToBits t).getLsbD 9 = t.t1189 :=
  calc (torqueToBits t).getLsbD 9
    _ = (BitVec.ofBool t.t1189 ++ BitVec.ofBool t.ev23).getLsbD 1 := getLsbD_append_above _ t.pct 1
    _ = (BitVec.ofBool t.t1189).getLsbD 0 := getLsbD_append_above _ (BitVec.ofBool t.ev23) 0
    _ = t.t1189 := by cases t.t1189 <;> rfl

end

/-- The DLC of the inverter command frame is the parameter, which fits its byte (R5, R85). -/
theorem invCmdFrame_dlc (cfg : Config) (tq : Byte) : (invCmdFrame cfg tq).dlc.toNat = cfg.invCmdDlc.val := by
  have hlt := cfg.invCmdDlc.isLt
  exact (BitVec.toNat_ofNat _ _).trans (Nat.mod_eq_of_lt (by omega))

/-- The torque is at the byte of the parameter, and every other payload byte is 0 (R85). -/
theorem invCmdFrame_data (cfg : Config) (tq : Byte) (k : Nat) (hk : k < 8) :
    (invCmdFrame cfg tq).data[k] = (if k = cfg.invCmdByte.val then tq else 0) := by
  rw [invCmdFrame, Vector.getElem_set, Vector.getElem_replicate]
  exact if_congr eq_comm rfl rfl

end Sys2Proof.Machine

namespace Sys2Proof.Proofs

open Sys2Proof.Machine

/-- Settles O13: each command's effect (`CommandEffect`) and its response on its port; `tq_out` bit by bit. -/
theorem responsePortsOfCommands : Obligations.ResponsePortsOfCommands := by
  refine ⟨rfl, fun s => ⟨?_, ?_, fun f => ?_, fun it => ?_, fun now => ?_, ?_⟩⟩
  · refine ⟨_, (exec_eq_next_iff _ _ _).2 .computeTorque, _, rfl, ?_⟩
    exact ⟨torqueToBits_pct _, torqueToBits_ev23 _, torqueToBits_t1189 _⟩
  · exact ⟨_, (exec_eq_next_iff _ _ _).2 .snapshot, rfl⟩
  · exact ⟨_, (exec_eq_next_iff _ _ _).2 (.pack f), rfl⟩
  · exact ⟨_, (exec_eq_next_iff _ _ _).2 (.unpack it), rfl⟩
  · exact ⟨_, _, (exec_eq_next_iff _ _ _).2 (.step now), rfl, rfl⟩
  · exact ⟨_, _, (exec_eq_next_iff _ _ _).2 .tlmBuild, rfl, rfl⟩

/-- Settles O38, field by field and byte by byte. -/
theorem inverterCommandFrame : Obligations.InverterCommandFrame :=
  fun cfg tq => ⟨rfl, rfl, invCmdFrame_dlc cfg tq, rfl, invCmdFrame_data cfg tq⟩

end Sys2Proof.Proofs
end

section
/-! PROOF. The shared record: who writes it (41_shared_state.md R103, with the writers of 10_state.md R20), and the
commands INIT (R100), SNAPSHOT (R101) and SET_START (R104). -/

namespace Sys2Proof.Machine

/-- A received frame is ignored, or it writes the field of its identifier's row (R123, R131, R132). -/
theorem dispatchFrame_cases (cfg : Config) (f : CanFrame) (r : VehicleInputs) :
    dispatchFrame cfg f r = r ∨ ∃ row, f.id = row.id ∧ dispatchFrame cfg f r = assignRow row f.data r := by
  cases hrow : DispatchRow.ofId f.id with
  | none => exact .inl (dispatchFrame_unknown cfg f r hrow)
  | some row =>
    rw [dispatchFrame_known cfg f r row hrow]
    obtain ⟨-, hsame⟩ | ⟨-, -, -, hsame⟩ | ⟨-, -, hassign⟩ := dispatchRow_cases cfg row f.dlc f.data r
    · exact .inl hsame
    · exact .inl hsame
    · exact .inr ⟨row, (DispatchRow.ofId_eq_some_iff _ _).1 hrow, hassign⟩

/-- What a command leaves in the record: all of it as before, or what the one command it is writes (R103). -/
theorem CommandEffect.record_cases {s t : State} {i : Instr} (heff : CommandEffect s i t) :
    t.record = s.record ∨
    (i = .init ∧ t.record = VehicleInputs.zero) ∨
    (∃ b, i = .setStart b ∧ t.record = s.record.setStartBtn b) ∨
    (∃ (f : CanFrame) (row : DispatchRow), receivedFrame i = some f ∧ f.id = row.id ∧
      t.record = assignRow row f.data s.record) ∨
    (∃ now tq ev t11, i = .step now ∧ t.record = s.record.writeBack tq ev t11) := by
  cases heff with
  | init => exact .inr (.inl ⟨rfl, rfl⟩)
  | setStart b => exact .inr (.inr (.inl ⟨b, rfl, rfl⟩))
  | receive i f hf =>
    obtain hsame | ⟨row, hid, hassign⟩ := dispatchFrame_cases Config.installed f s.record
    · exact .inl hsame
    · exact .inr (.inr (.inr (.inl ⟨f, row, hf, hid, hassign⟩)))
  | step now => exact .inr (.inr (.inr (.inr ⟨now, _, _, _, rfl, rfl⟩)))
  | _ => exact .inl rfl

/-- A tick that starts in RUN ends in RUN (R187). -/
theorem State.controlTick_fsm_of_run {s : State} (h : s.fsm = .run) (cfg : Config) (now : Word) :
    (s.controlTick cfg now).fsm = .run := by
  rw [State.controlTick_fsm, h, fsmNext]

end Sys2Proof.Machine

namespace Sys2Proof.Proofs

open Sys2Proof.Machine

/-- Settles O50, writer by writer (`CommandEffect.record_cases`); a received frame row by row, each row with its
identifier and its one field. -/
theorem recordWriters : Obligations.RecordWriters := by
  intro i s t hexec
  have heff := (exec_eq_next_iff i s t).1 hexec
  obtain hsame | ⟨rfl, -⟩ | ⟨b, rfl, hset⟩ | ⟨f, row, hf, hid, hassign⟩ | ⟨now, tq, ev, t11, rfl, hback⟩ :=
    heff.record_cases
  · simp [hsame]
  · simp
  · simp [hset]
  · cases row <;> simp [hassign, hf, hid, DispatchRow.id]
  · simp [hback]

/-- Settles O14, by the effect of INIT (`CommandEffect.init`): it keeps FSM, and STEP keeps RUN. -/
theorem initZeroesRecord : Obligations.InitZeroesRecord := by
  have hinit (s : State) := (exec_eq_next_iff .init s _).2 .init
  refine ⟨fun p hop => ?_, hinit, hinit State.reset, fun s now hrun => ?_⟩
  · obtain ⟨-, hdecode, -⟩ := decodeByOp p
    exact hdecode hop
  · refine ⟨_, _, hinit s, (exec_eq_next_iff _ _ _).2 (.step now), State.controlTick_fsm_of_run ?_ _ now⟩
    exact hrun

/-- Settles O15, by the effect of SNAPSHOT (`CommandEffect.snapshot`), whose response is the record alone. -/
theorem snapshotRespondsRecord : Obligations.SnapshotRespondsRecord := by
  have hsnapshot (s : State) := (exec_eq_next_iff .snapshot s _).2 .snapshot
  refine ⟨fun p hop => ?_, fun s => ⟨_, hsnapshot s, rfl, hsnapshot _⟩, fun s u hrec => ?_⟩
  · obtain ⟨-, -, hdecode, -⟩ := decodeByOp p
    exact hdecode hop
  · exact ⟨_, _, hsnapshot s, hsnapshot u, congrArg Response.record hrec⟩

/-- Settles O16, by the effect of SET_START (`CommandEffect.setStart`). -/
theorem setStartWritesButton : Obligations.SetStartWritesButton := by
  refine ⟨fun p hop => ?_, fun b s => (exec_eq_next_iff _ _ _).2 (.setStart b)⟩
  obtain ⟨-, -, -, hdecode, -⟩ := decodeByOp p
  rw [hdecode hop, getLsbD_zero_eq_decide]

end Sys2Proof.Proofs
end

section
/-! PROOF. The codec (42_codec_dispatch.md R120 to R122): the bytes of PACK, the fields of UNPACK, and what is left
of an item or a frame after both. -/

namespace Sys2Proof.Machine

/-! ### The four bytes of an identifier (R10, R78) -/

/-- The little-endian assembly is the layout of its bytes on a port (R10, R74). -/
theorem le32_eq_bytesToBits (b0 b1 b2 b3 : Byte) : le32 b0 b1 b2 b3 = bytesToBits #v[b0, b1, b2, b3] := by
  have hlanes : (bytesToBits #v[b0, b1, b2, b3]).toNat =
      (b0.toNat + 256 * (b1.toNat + 256 * (b2.toNat + 256 * (b3.toNat + 256 * 0)))) % 2 ^ 32 := rfl
  refine BitVec.eq_of_toNat_eq ((le32_toNat b0 b1 b2 b3).trans ?_)
  omega

/-- Byte `k` of an assembled identifier is the byte it was assembled from. -/
theorem byteOf_le32 (b0 b1 b2 b3 : Byte) (k : Nat) (hk : k < 4) :
    byteOf (le32 b0 b1 b2 b3) k = #v[b0, b1, b2, b3][k] := by
  rw [le32_eq_bytesToBits]
  exact laneOf_bytesToBits _ k hk

/-- A 32-bit value is the little-endian assembly of its four bytes. -/
@[simp] theorem le32_byteOf (x : Word) : le32 (byteOf x 0) (byteOf x 1) (byteOf x 2) (byteOf x 3) = x :=
  (le32_eq_bytesToBits _ _ _ _).trans (bytesToBits_bytesOfBits (n := 4) x)

/-! ### The flag byte (R78) -/

/-- The flag is read back from its byte. -/
@[simp] theorem decide_flagByte_ne_zero (b : Bool) : decide (flagByte b ≠ 0) = b := by
  cases b <;> rfl

/-- The flag of a byte is written as 0 or 1. -/
theorem flagByte_decide_ne_zero (x : Byte) : flagByte (decide (x ≠ 0)) = if x = 0 then 0 else 1 := by
  by_cases hx : x = 0 <;> simp [flagByte, hx]

/-! ### The bytes and the fields -/

/-- Bytes 1 to 4 of PACK's item are the identifier's, low byte first (R120). -/
theorem packItem_id (f : CanFrame) (k : Nat) (hk : k < 4) : (packItem f)[1 + k] = byteOf f.id k := by
  interval_cases k <;> rfl

/-- Bytes 8 to 15 of PACK's item are the data bytes (R120). -/
theorem packItem_data (f : CanFrame) (k : Nat) (hk : k < 8) : (packItem f)[8 + k] = f.data[k] := by
  interval_cases k <;> rfl

/-- The identifier of UNPACK's frame has bytes 1 to 4 of the item, low byte first (R121). -/
theorem unpackItem_id (it : CanQueueItem) (k : Nat) (hk : k < 4) : byteOf (unpackItem it).id k = it[1 + k] := by
  refine (byteOf_le32 it[1] it[2] it[3] it[4] k hk).trans ?_
  interval_cases k <;> rfl

/-- The data bytes of UNPACK's frame are bytes 8 to 15 of the item (R121). -/
theorem unpackItem_data (it : CanQueueItem) (k : Nat) (hk : k < 8) : (unpackItem it).data[k] = it[8 + k] := by
  interval_cases k <;> rfl

/-! ### The round trips (R122) -/

/-- A frame is read back from its item. -/
@[simp] theorem unpackItem_packItem (f : CanFrame) : unpackItem (packItem f) = f := by
  have hid : (unpackItem (packItem f)).id = f.id := le32_byteOf f.id
  have hext : (unpackItem (packItem f)).ext = f.ext := decide_flagByte_ne_zero f.ext
  have hdata : (unpackItem (packItem f)).data = f.data :=
    Vector.ext fun k hk => (unpackItem_data _ k hk).trans (packItem_data f k hk)
  calc unpackItem (packItem f)
    _ = { f with
          id := (unpackItem (packItem f)).id
          ext := (unpackItem (packItem f)).ext
          data := (unpackItem (packItem f)).data } := rfl
    _ = f := by rw [hid, hext, hdata]

/-- Frames of one item are equal. -/
theorem packItem_injective : Function.Injective packItem :=
  Function.LeftInverse.injective unpackItem_packItem

/-- UNPACK then PACK keeps every byte but 6 and 7. -/
theorem packItem_unpackItem_getElem (it : CanQueueItem) (k : Nat) (hk : k < 16) (hflag : k ≠ 6)
    (hpad : k ≠ 7) : (packItem (unpackItem it))[k] = it[k] := by
  obtain rfl | ⟨hlow, hhigh⟩ | rfl | hdata : k = 0 ∨ (1 ≤ k ∧ k < 5) ∨ k = 5 ∨ 8 ≤ k := by omega
  · rfl
  · obtain ⟨j, rfl⟩ := Nat.exists_eq_add_of_le hlow
    exact (packItem_id _ j (by omega)).trans (unpackItem_id it j (by omega))
  · rfl
  · obtain ⟨j, rfl⟩ := Nat.exists_eq_add_of_le hdata
    exact (packItem_data _ j (by omega)).trans (unpackItem_data it j (by omega))

/-- UNPACK then PACK is the item with byte 6 made 0 or 1 and byte 7 made 0. -/
theorem packItem_unpackItem (it : CanQueueItem) :
    packItem (unpackItem it) = (it.set 6 (if it[6] = 0 then 0 else 1)).set 7 0 := by
  refine Vector.ext fun k hk => ?_
  rw [Vector.getElem_set, Vector.getElem_set]
  split_ifs with hpad hflag hzero
  · subst hpad; rfl
  · subst hflag; exact (flagByte_decide_ne_zero it[6]).trans (if_pos hzero)
  · subst hflag; exact (flagByte_decide_ne_zero it[6]).trans (if_neg hzero)
  · exact packItem_unpackItem_getElem it k hk (Ne.symm hflag) (Ne.symm hpad)

/-- UNPACK then PACK gives back exactly the items whose byte 6 is 0 or 1 and whose byte 7 is 0. -/
theorem packItem_unpackItem_eq_iff (it : CanQueueItem) :
    packItem (unpackItem it) = it ↔ (it[6] = 0 ∨ it[6] = 1) ∧ it[7] = 0 := by
  constructor
  · intro h
    obtain ⟨hzero, hflag⟩ := packItem_inv (unpackItem it)
    rw [h] at hzero hflag
    exact ⟨hflag, hzero⟩
  · rintro ⟨hflag, hzero⟩
    have hnormal : (if it[6] = 0 then (0 : Byte) else 1) = it[6] := by
      obtain h | h := hflag <;> simp [h]
    rw [packItem_unpackItem, hnormal, Vector.set_getElem_self, ← hzero, Vector.set_getElem_self]

end Sys2Proof.Machine

namespace Sys2Proof.Proofs

open Sys2Proof.Machine

/-- Settles O17: PACK answers its item (`CommandEffect.pack`), whose bytes 1 to 4 assemble to the identifier. -/
theorem packBuildsItem : Obligations.PackBuildsItem := by
  refine ⟨fun p hop => ?_, fun f s => ⟨packItem f, (exec_eq_next_iff _ _ _).2 (.pack f), rfl, ?_, rfl, rfl, rfl,
    packItem_data f⟩⟩
  · obtain ⟨-, -, -, -, hdecode, -⟩ := decodeByOp p
    exact hdecode hop
  · have hbytes := le32_toNat (byteOf f.id 0) (byteOf f.id 1) (byteOf f.id 2) (byteOf f.id 3)
    rw [le32_byteOf] at hbytes
    exact hbytes.symm

/-- Settles O18: UNPACK answers its frame (`CommandEffect.unpack`), field by field. -/
theorem unpackReadsItem : Obligations.UnpackReadsItem := by
  refine ⟨fun p hop => ?_, fun it s => ⟨unpackItem it, (exec_eq_next_iff _ _ _).2 (.unpack it), rfl,
    le32_toNat _ _ _ _, rfl, decide_eq_true_iff, unpackItem_data it⟩⟩
  obtain ⟨-, -, -, -, -, hdecode, -⟩ := decodeByOp p
  exact hdecode hop

/-- Settles O19, law by law; the two commands write only the response (`exec_eq_next_iff`). -/
theorem codecLaws : Obligations.CodecLaws :=
  ⟨unpackItem_packItem, fun _ _ h => packItem_injective h, packItem_unpackItem_eq_iff, packItem_unpackItem,
    fun f it s => ⟨(exec_eq_next_iff _ s _).2 (.pack f), (exec_eq_next_iff _ s _).2 (.unpack it)⟩⟩

end Sys2Proof.Proofs
end

section
/-! PROOF. DISPATCH of every frame (42_codec_dispatch.md R123): the row of an identifier, the frames that are
ignored (R131, R132), the six rows (R125 to R130), and RXITEM (R133). -/

namespace Sys2Proof

/-- An identifier has no row exactly when it is none of the six (R81, R131). -/
theorem DispatchRow.ofId_eq_none_iff (id : Word) :
    DispatchRow.ofId id = none ↔
      id ≠ 0x20#32 ∧ id ≠ 0x100#32 ∧ id ≠ 0x101#32 ∧ id ≠ 0x102#32 ∧ id ≠ 0x103#32 ∧ id ≠ 0x12C#32 := by
  have hnone : DispatchRow.ofId id = none ↔ ∀ row : DispatchRow, id ≠ row.id := by
    simp only [Option.eq_none_iff_forall_ne_some, ne_eq, DispatchRow.ofId_eq_some_iff]
  rw [hnone]
  constructor
  · intro h
    exact ⟨h .prechargeAck, h .dcBusV, h .acc1, h .acc2, h .brake, h .minCellV⟩
  · rintro ⟨hprecharge, hdcBus, hacc1, hacc2, hbrake, hcell⟩ row
    cases row with
    | prechargeAck => exact hprecharge
    | dcBusV => exact hdcBus
    | acc1 => exact hacc1
    | acc2 => exact hacc2
    | brake => exact hbrake
    | minCellV => exact hcell

/-- Identifier 0x20 needs one byte, the five others two (R132). -/
theorem DispatchRow.need_eq_ite (row : DispatchRow) : row.need = if row.id = 0x20#32 then 1 else 2 := by
  cases row <;> rfl

namespace Machine

/-! ### Frames that are ignored (R131, R132) -/

/-- A frame whose DLC is not taken leaves the record as it is, whatever its row. -/
theorem dispatchRow_of_not_dlcTaken {cfg : Config} {row : DispatchRow} {dlc : Byte}
    (h : ¬DlcTaken cfg row.need dlc) (data : Payload) (r : VehicleInputs) :
    dispatchRow cfg row dlc data r = r := by
  obtain ⟨-, hsame⟩ | ⟨-, -, -, hsame⟩ | ⟨hrange, hlong, -⟩ := dispatchRow_cases cfg row dlc data r
  · exact hsame
  · exact hsame
  · exact absurd ⟨hrange, hlong⟩ h

/-- A frame with a DLC out of range leaves the record as it is, whatever its identifier (R131). -/
theorem dispatchFrame_of_dlc_gt {cfg : Config} {f : CanFrame} (h : 8 < f.dlc.toNat) (r : VehicleInputs) :
    dispatchFrame cfg f r = r := by
  cases hrow : DispatchRow.ofId f.id with
  | none => exact dispatchFrame_unknown cfg f r hrow
  | some row =>
    rw [dispatchFrame_known cfg f r row hrow]
    exact dispatchRow_of_not_dlcTaken (fun htaken => Nat.not_le_of_lt h htaken.1) f.data r

/-- A frame of a known identifier is dispatched by the row of that identifier (R124). -/
theorem dispatchFrame_of_id_eq {f : CanFrame} {row : DispatchRow} (hid : f.id = row.id) (cfg : Config)
    (r : VehicleInputs) : dispatchFrame cfg f r = dispatchRow cfg row f.dlc f.data r :=
  dispatchFrame_known cfg f r row ((DispatchRow.ofId_eq_some_iff _ _).2 hid)

/-- What DISPATCH answers: the record it makes of the frame, and no response (R123). -/
theorem exec_dispatch (f : CanFrame) (s : State) :
    exec (.dispatch f) s =
      .next { s with record := dispatchFrame Config.installed f s.record, response := .empty } :=
  exec_of_receivedFrame _ f s rfl

/-- A frame the record ignores changes nothing (R131). -/
theorem exec_dispatch_of_ignored {f : CanFrame} {s : State}
    (h : dispatchFrame Config.installed f s.record = s.record) :
    exec (.dispatch f) s = .next { s with response := .empty } := by
  rw [exec_dispatch, h]

/-! ### The field of an identifier, as R123 writes it -/

/-- The two bytes of a little-endian field, as a number (R83). -/
theorem le16_eq_ofNat (b0 b1 : Byte) : le16 b0 b1 = BitVec.ofNat 16 (b0.toNat + 256 * b1.toNat) := by
  rw [← le16_toNat, BitVec.ofNat_toNat, BitVec.setWidth_eq]

/-- The two bytes of a big-endian field, as a number (R83). -/
theorem be16_eq_ofNat (b0 b1 : Byte) : be16 b0 b1 = BitVec.ofNat 16 (256 * b0.toNat + b1.toNat) := by
  rw [← be16_toNat, BitVec.ofNat_toNat, BitVec.setWidth_eq]

/-- The pseudocode of R123 past its two checks: the record after a frame of identifier `id`, by comparing the
identifier with the six of the dispatch map in turn. -/
def writeById (id : Word) (data : Payload) (r : VehicleInputs) : VehicleInputs :=
  if id = 0x20#32 then { r with prechargeAck := data[0] }
  else if id = 0x100#32 then { r with dcBusV := BitVec.ofNat 16 (data[0].toNat + 256 * data[1].toNat) }
  else if id = 0x101#32 then { r with acc1 := BitVec.ofNat 16 (data[0].toNat + 256 * data[1].toNat) }
  else if id = 0x102#32 then { r with acc2 := BitVec.ofNat 16 (data[0].toNat + 256 * data[1].toNat) }
  else if id = 0x103#32 then { r with brake := BitVec.ofNat 16 (data[0].toNat + 256 * data[1].toNat) }
  else if id = 0x12C#32 then { r with minCellV := BitVec.ofNat 16 (256 * data[0].toNat + data[1].toNat) }
  else r

/-- Under a row's identifier the pseudocode writes the row's field. -/
theorem writeById_id (row : DispatchRow) (data : Payload) (r : VehicleInputs) :
    writeById row.id data r = assignRow row data r := by
  cases row <;> simp [writeById, DispatchRow.id, le16_eq_ofNat, be16_eq_ofNat]

/-- Under an unknown identifier the pseudocode writes nothing. -/
theorem writeById_unknown {id : Word} (h : DispatchRow.ofId id = none) (data : Payload) (r : VehicleInputs) :
    writeById id data r = r := by
  obtain ⟨hprecharge, hdcBus, hacc1, hacc2, hbrake, hcell⟩ := (DispatchRow.ofId_eq_none_iff id).1 h
  simp [writeById, hprecharge, hdcBus, hacc1, hacc2, hbrake, hcell]

/-- A dispatched frame passes the two checks of R123 and is written by its identifier, or it is ignored. -/
theorem dispatchFrame_eq_ite (cfg : Config) (f : CanFrame) (r : VehicleInputs) :
    dispatchFrame cfg f r =
      if 8 < f.dlc.toNat then r
      else if cfg.dlcMinCheck = true ∧ f.dlc.toNat < (if f.id = 0x20#32 then 1 else 2) then r
      else writeById f.id f.data r := by
  cases hrow : DispatchRow.ofId f.id with
  | none => rw [dispatchFrame_unknown cfg f r hrow, writeById_unknown hrow, ite_self, ite_self]
  | some row =>
    have hid : f.id = row.id := (DispatchRow.ofId_eq_some_iff _ _).1 hrow
    rw [dispatchFrame_of_id_eq hid, hid, ← DispatchRow.need_eq_ite, writeById_id]
    obtain ⟨hover, hsame⟩ | ⟨hrange, hcheck, hshort, hsame⟩ | ⟨hrange, hlong, hassign⟩ :=
      dispatchRow_cases cfg row f.dlc f.data r
    · rw [hsame, if_pos hover]
    · rw [hsame, if_neg (Nat.not_lt.2 hrange), if_pos ⟨hcheck, hshort⟩]
    · rw [hassign, if_neg (Nat.not_lt.2 hrange), if_neg fun h => Nat.not_lt.2 (hlong h.1) h.2]

/-! ### The six rows (R125 to R130) -/

/-- A row's instruction dispatches its frame to the row. -/
theorem exec_rowInstr (row : DispatchRow) (g : RxFrame) (s : State) :
    exec (row.instr g) s =
      .next { s with record := dispatchRow Config.installed row g.dlc g.data s.record, response := .empty } :=
  (exec_of_receivedFrame _ _ s (receivedFrame_rowInstr row g)).trans
    (congrArg _ (s.receive_toFrame Config.installed row g))

/-- What a row's instruction answers: its field written where the DLC is taken, else nothing changed. -/
theorem exec_rowInstr_spec (row : DispatchRow) (g : RxFrame) (s : State) :
    ∃ t, exec (row.instr g) s = .next t ∧
      (DlcTaken Config.installed row.need g.dlc →
        t = { s with record := assignRow row g.data s.record, response := .empty }) ∧
      (¬DlcTaken Config.installed row.need g.dlc → t = { s with response := .empty }) := by
  refine ⟨_, exec_rowInstr row g s, fun htaken => ?_, fun hnot => ?_⟩
  · rw [dispatchRow_of_dlcTaken htaken]
  · rw [dispatchRow_of_not_dlcTaken hnot]

/-- What the instruction of a two-byte row answers, by the number `n` that its bytes make. -/
theorem exec_rowInstr_half {row : DispatchRow} (hneed : row.need = 2) (g : RxFrame) (s : State) {v : Half}
    {n : Nat} (hv : v.toNat = n) (write : Half → VehicleInputs)
    (hassign : assignRow row g.data s.record = write v) :
    ∃ t, exec (row.instr g) s = .next t ∧
      (DlcTaken Config.installed 2 g.dlc → ∃ x : Half, x.toNat = n ∧
        t = { s with record := write x, response := .empty }) ∧
      (¬DlcTaken Config.installed 2 g.dlc → t = { s with response := .empty }) := by
  obtain ⟨t, hexec, htaken, hnot⟩ := exec_rowInstr_spec row g s
  rw [hneed] at htaken hnot
  exact ⟨t, hexec, fun h => ⟨v, hv, hassign ▸ htaken h⟩, hnot⟩

/-! ### RXITEM (R133) -/

/-- UNPACK reads the identifier, the DLC and the data of a frame from the item's bytes but 0, 6 and 7. -/
theorem unpackItem_set_unread (it : CanQueueItem) (b0 b6 b7 : Byte) :
    unpackItem (((it.set 0 b0).set 6 b6).set 7 b7) =
      { unpackItem it with bus := b0, ext := decide (b6 ≠ 0) } := by
  simp [unpackItem]

end Machine

end Sys2Proof

namespace Sys2Proof.Proofs

open Sys2Proof.Machine

/-- Settles O20: the pseudocode is `dispatchFrame_eq_ite`, with `writeById` its choice of the field. -/
theorem dispatchByIdentifier : Obligations.DispatchByIdentifier := by
  refine ⟨fun p hop => ?_, fun f s => ?_⟩
  · obtain ⟨-, -, -, -, -, -, hreceived, -⟩ := decodeByOp p
    exact hreceived hop
  · rw [exec_dispatch, dispatchFrame_eq_ite]
    rfl

/-- Settles O22, row by row (`exec_rowInstr_spec`): each assembles its field from its own bytes, in its order. -/
theorem dispatchRowsWriteTheirField : Obligations.DispatchRowsWriteTheirField := by
  intro g s
  have hlittle := le16_toNat g.data[0] g.data[1]
  have hbig := be16_toNat g.data[0] g.data[1]
  refine ⟨exec_rowInstr_spec .prechargeAck g s, ?_, ?_, ?_, ?_, ?_⟩
  · exact exec_rowInstr_half (row := .dcBusV) rfl g s hlittle (fun x => { s.record with dcBusV := x }) rfl
  · exact exec_rowInstr_half (row := .acc1) rfl g s hlittle (fun x => { s.record with acc1 := x }) rfl
  · exact exec_rowInstr_half (row := .acc2) rfl g s hlittle (fun x => { s.record with acc2 := x }) rfl
  · exact exec_rowInstr_half (row := .brake) rfl g s hlittle (fun x => { s.record with brake := x }) rfl
  · exact exec_rowInstr_half (row := .minCellV) rfl g s hbig (fun x => { s.record with minCellV := x }) rfl

/-- Settles O23: the record ignores the frame for its DLC or for its identifier. -/
theorem ignoredFramesChangeNothing : Obligations.IgnoredFramesChangeNothing := by
  rintro f s (hover | hunknown)
  · exact exec_dispatch_of_ignored (dispatchFrame_of_dlc_gt hover s.record)
  · have hrow := (DispatchRow.ofId_eq_none_iff f.id).2 hunknown
    exact exec_dispatch_of_ignored (dispatchFrame_unknown _ f s.record hrow)

/-- Settles O24: the bytes the row needs decide whether the DLC is taken. -/
theorem shortDlcFollowsParameter : Obligations.ShortDlcFollowsParameter := by
  intro cfg f row r hid hrange
  rw [dispatchFrame_of_id_eq hid, hid, ← DispatchRow.need_eq_ite]
  refine ⟨fun hoff => ?_, fun hon => ⟨fun hshort => ?_, fun hlong => ?_⟩⟩
  · exact dispatchRow_of_dlcTaken ⟨hrange, fun hon => absurd (hoff.symm.trans hon) Bool.false_ne_true⟩ f.data r
  · exact dispatchRow_of_not_dlcTaken (fun htaken => Nat.not_le_of_lt hshort (htaken.2 hon)) f.data r
  · exact dispatchRow_of_dlcTaken ⟨hrange, fun _ => hlong⟩ f.data r

/-- Settles O26: RXITEM receives the frame of UNPACK's response, of which DISPATCH reads neither the bus nor the
format (`dispatchKeyIsIdentifier`). -/
theorem rxitemIsUnpackThenDispatch : Obligations.RxitemIsUnpackThenDispatch := by
  have hrxitem (it : CanQueueItem) (s : State) : exec (.rxitem it) s = exec (.dispatch (unpackItem it)) s :=
    (exec_of_receivedFrame _ _ s rfl).trans (exec_of_receivedFrame _ _ s rfl).symm
  refine ⟨fun p hop => ?_, fun it s => ?_, fun it b0 b6 b7 s => ?_, fun it s hover => ?_⟩
  · obtain ⟨-, -, -, -, -, -, -, hdecode, -⟩ := decodeByOp p
    exact hdecode hop
  · exact ⟨_, _, unpackItem it, (hrxitem it s).trans (exec_dispatch _ s), (exec_eq_next_iff _ s _).2 (.unpack it),
      rfl, exec_dispatch _ _, rfl, rfl, rfl, rfl, rfl⟩
  · obtain ⟨hkey, -⟩ := dispatchKeyIsIdentifier
    rw [hrxitem, hrxitem, unpackItem_set_unread]
    exact hkey (unpackItem it) b0 (decide (b6 ≠ 0)) s
  · rw [hrxitem]
    exact exec_dispatch_of_ignored (dispatchFrame_of_dlc_gt (f := unpackItem it) hover s.record)

end Sys2Proof.Proofs
end

section
/-! PROOF. The torque safety engine function by function (43_torque_safety.md R150 to R155): the computed torque, then
the latch, then what a call returns. -/

namespace Sys2Proof.Machine

/-! ### The range of a torque -/

/-- No torque in range is above 100 (R155). -/
theorem TorqueRange.le_hundred {t : Nat} (h : TorqueRange t) : t ≤ 100 := by
  unfold TorqueRange at h
  omega

/-- The deadband leaves no torque between 0 and 5, so the clear condition asks for a torque of 0 (R153). -/
theorem TorqueRange.lt_five_iff {t : Nat} (h : TorqueRange t) : t < 5 ↔ t = 0 := by
  unfold TorqueRange at h
  omega

section
variable {cfg : Config} {r : VehicleInputs}

/-! ### The computed torque (R152) -/

theorem torqueRange_computedTorque (cfg : Config) (r : VehicleInputs) : TorqueRange (computedTorque cfg r) :=
  torqueRange_deadband _

/-- A closed gate gives a mean of 0 (R152). -/
theorem gatedMean_of_closed {p1 p2 : Nat} (h : p1 ≤ 8 ∨ p2 ≤ 8) : gatedMean p1 p2 = 0 :=
  if_neg (by unfold gatePct; omega)

/-- An open gate gives the floored mean (R152). -/
theorem gatedMean_of_open {p1 p2 : Nat} (h1 : 8 < p1) (h2 : 8 < p2) : gatedMean p1 p2 = (p1 + p2) / 2 :=
  if_pos ⟨h1, h2⟩

/-- The gate takes torque away and never adds any (R152). -/
theorem gatedMean_le_mean (p1 p2 : Nat) : gatedMean p1 p2 ≤ (p1 + p2) / 2 := by
  unfold gatedMean
  split <;> omega

theorem deadband_of_low {m : Nat} (h : m < 10) : deadband m = 0 := if_pos h

theorem deadband_of_high {m : Nat} (h : 90 < m) : deadband m = 100 := by
  rw [deadband, if_neg (by unfold deadbandFloor; omega), if_pos h]

theorem deadband_of_mid {m : Nat} (hlow : 10 ≤ m) (hhigh : m ≤ 90) : deadband m = m := by
  rw [deadband, if_neg (Nat.not_lt_of_le hlow), if_neg (Nat.not_lt_of_le hhigh)]

/-- The engine reads the two accelerator sensors, each through its calibration (R150, R151). -/
theorem computedTorque_of_sensors {a1 a2 : Half} (h1 : r.acc1 = a1) (h2 : r.acc2 = a2) :
    computedTorque cfg r = deadband (gatedMean (cfg.cal1 a1).val (cfg.cal2 a2).val) := by
  rw [computedTorque, pct1, pct2, h1, h2]

/-- No torque is computed while the gate is closed (R152). -/
theorem computedTorque_of_closed (h : pct1 cfg r ≤ 8 ∨ pct2 cfg r ≤ 8) : computedTorque cfg r = 0 := by
  rw [computedTorque, gatedMean_of_closed h, deadband_of_low (by decide)]

/-! ### The latch (R153) -/

/-- LATCH' as R153 writes it. -/
theorem tseLatch_eq_ite (cfg : Config) (r : VehicleInputs) (latch : Bool) :
    tseLatch cfg r latch =
      (if cfg.brakeThr.toNat < r.brake.toNat ∧ 25 < computedTorque cfg r then true
      else if r.brake.toNat < cfg.brakeThr.toNat ∧ computedTorque cfg r < 5 then false
      else latch) := by
  obtain ⟨hbrake, ht, hset⟩ | ⟨hbrake, ht, hclear⟩ | ⟨hnoset, hnoclear, hsame⟩ :=
    latchUpdate_cases cfg r.brake (computedTorque cfg r) latch
  · rw [tseLatch, hset, if_pos ⟨hbrake, ht⟩]
  · rw [tseLatch, hclear, if_neg (by omega), if_pos ⟨hbrake, ht⟩]
  · rw [tseLatch, hsame, if_neg hnoset, if_neg hnoclear]

theorem tseLatch_of_set (hbrake : cfg.brakeThr.toNat < r.brake.toNat) (ht : 25 < computedTorque cfg r)
    (latch : Bool) : tseLatch cfg r latch = true := by
  rw [tseLatch_eq_ite, if_pos ⟨hbrake, ht⟩]

/-- A clear latch stays clear while the brake is not above the threshold (R153). -/
theorem tseLatch_false_of_brake_le (hbrake : r.brake.toNat ≤ cfg.brakeThr.toNat) :
    tseLatch cfg r false = false := by
  rw [tseLatch_eq_ite, if_neg (by omega), ite_self]

/-- A set latch is cleared by the brake below the threshold at a computed torque of 0, and by nothing else
(R153). -/
theorem tseLatch_true_eq_false_iff :
    tseLatch cfg r true = false ↔ r.brake.toNat < cfg.brakeThr.toNat ∧ computedTorque cfg r = 0 := by
  have hzero := (torqueRange_computedTorque cfg r).lt_five_iff
  rw [tseLatch_eq_ite]
  split_ifs with hset hclear
  · simp only [false_iff]; omega
  · simp only [true_iff]; omega
  · simp only [false_iff]; omega

/-- The update of the latch is settled after one call on the same record (R153). -/
@[simp] theorem tseLatch_tseLatch (cfg : Config) (r : VehicleInputs) (latch : Bool) :
    tseLatch cfg r (tseLatch cfg r latch) = tseLatch cfg r latch := by
  simp only [tseLatch_eq_ite]
  split_ifs <;> rfl

/-! ### What a call returns (R154) -/

/-- The reply reads LATCH through LATCH' alone (R150, R154). -/
@[simp] theorem tseReply_tseLatch (cfg : Config) (r : VehicleInputs) (latch : Bool) :
    tseReply cfg r (tseLatch cfg r latch) = tseReply cfg r latch := by
  simp [tseReply]

/-- With LATCH' set a call returns 0 and EV2.3 (R154). -/
theorem tseReply_of_latched {latch : Bool} (h : tseLatch cfg r latch = true) :
    tseReply cfg r latch = { pct := 0, ev23 := true, t1189 := false } := by
  simp [tseReply, h, ev23Flag, t1189Flag]

/-- A torque fits the byte of the reply, so with LATCH' clear the reply is the computed torque (R154). -/
theorem tseReply_pct_toNat_of_unlatched {latch : Bool} (h : tseLatch cfg r latch = false) :
    (tseReply cfg r latch).pct.toNat = computedTorque cfg r := by
  have hle := (torqueRange_computedTorque cfg r).le_hundred
  rw [tseReply_pct_of_unlatched h, BitVec.toNat_ofNat]
  exact Nat.mod_eq_of_lt (by omega)

/-- A computed torque of 0 is returned as 0, latched or not (R154). -/
theorem tseReply_pct_of_computedTorque_zero (h : computedTorque cfg r = 0) (latch : Bool) :
    (tseReply cfg r latch).pct = 0 := by
  simp [tseReply, h]

end

end Sys2Proof.Machine

namespace Sys2Proof.Proofs

open Sys2Proof.Machine

/-- Settles O28: the gate, mean and deadband by definition, the latch by `tseLatch_eq_ite`, the forcing by the two
values of LATCH'. -/
theorem tseComposition : Obligations.TseComposition := by
  refine ⟨fun cfg r latch p1 p2 m t latch' hp1 hp2 hm ht hlatch => ?_, fun cfg r q latch h1 h2 hbrake => ?_⟩
  · have htorque : computedTorque cfg r = t := by
      subst hp1 hp2 hm ht
      rfl
    have hnext : tseLatch cfg r latch = latch' := by
      rw [tseLatch_eq_ite, htorque, hlatch]
    refine ⟨htorque, hnext, ?_, hnext, rfl⟩
    cases latch' with
    | true => rw [tseReply_pct_of_latched hnext]; rfl
    | false => rw [tseReply_pct_toNat_of_unlatched hnext, htorque]; rfl
  · have htorque : computedTorque cfg r = computedTorque cfg q := computedTorque_of_sensors h1 h2
    have hlatch : tseLatch cfg r latch = tseLatch cfg q latch := by
      rw [tseLatch_eq_ite, tseLatch_eq_ite, htorque, hbrake]
    refine ⟨?_, hlatch⟩
    rw [tseReply, tseReply, hlatch, htorque]

/-- Settles O29: the gate closed or open, then the three cases of the deadband. -/
theorem computedTorqueRange : Obligations.ComputedTorqueRange := by
  refine fun cfg r => ⟨torqueRange_computedTorque cfg r, computedTorque_of_closed, fun h1 h2 => ?_⟩
  rw [computedTorque, gatedMean_of_open h1 h2]
  exact ⟨deadband_of_low, deadband_of_high, deadband_of_mid⟩

/-- Settles O30, by the rule as R153 writes it (`tseLatch_eq_ite`). -/
theorem latchUpdateRule : Obligations.LatchUpdateRule := by
  intro cfg r latch
  refine ⟨fun hbrake ht => tseLatch_of_set hbrake ht latch, fun hbrake ht => ?_, fun hnoset hnoclear => ?_,
    by omega, fun hbrake => ?_, (torqueRange_computedTorque cfg r).lt_five_iff⟩
  · rw [tseLatch_eq_ite, if_neg (by omega), if_pos ⟨hbrake, ht⟩]
  · rw [tseLatch_eq_ite, if_neg hnoset, if_neg hnoclear]
  · rw [tseLatch_eq_ite, hbrake, if_neg (by omega), if_neg (by omega)]

/-- Settles O31: a clearing call has a computed torque of 0 (`tseLatch_true_eq_false_iff`). -/
theorem latchForcesTorque : Obligations.LatchForcesTorque := by
  refine fun cfg r latch => ⟨tseReply_pct_of_latched, tseReply_pct_toNat_of_unlatched, rfl, ?_⟩
  rintro rfl hcleared
  obtain ⟨-, hzero⟩ := tseLatch_true_eq_false_iff.1 hcleared
  exact tseReply_pct_of_computedTorque_zero hzero true

/-- Settles O32: a set latch or a closed gate would leave a torque of 0. -/
theorem torqueResultRange : Obligations.TorqueResultRange := by
  intro cfg r latch
  have hrange := torqueRange_tseReply_pct cfg r latch
  refine ⟨hrange, hrange.le_hundred, fun hpos => ?_⟩
  have hunlatched : tseLatch cfg r latch = false := by
    by_contra hlatched
    rw [tseReply_pct_of_latched (Bool.eq_true_of_not_eq_false hlatched)] at hpos
    exact absurd hpos (by decide)
  rw [tseReply_pct_toNat_of_unlatched hunlatched] at hpos
  have hopen : ¬(pct1 cfg r ≤ 8 ∨ pct2 cfg r ≤ 8) := fun hclosed =>
    Nat.ne_of_gt hpos (computedTorque_of_closed hclosed)
  exact ⟨hunlatched, by omega, by omega⟩

end Sys2Proof.Proofs
end

section
/-! PROOF. A set latch cuts the torque, call by call (43_torque_safety.md R156) and over runs (70_reset_and_hazards.md
R252). -/

namespace Sys2Proof.Machine

/-! ### Batches without torque (R85, R188) -/

/-- A batch that carries no torque: its own is 0, and so is every payload byte of its slots. -/
abbrev ControlOutput.Cut (o : ControlOutput) : Prop := (Response.control o).Cut

/-- The inverter command frame of a torque of 0 carries 0 in every payload byte (R85). -/
theorem invCmdFrame_data_of_zero (cfg : Config) : (invCmdFrame cfg 0).data = Vector.replicate 8 0 := by
  ext1 k hk
  rw [invCmdFrame_data cfg 0 k hk, ite_self, Vector.getElem_replicate]

/-- The empty batch of a torque of 0 carries none (R84, R180). -/
theorem ControlOutput.start_cut : (ControlOutput.start 0).Cut := by
  refine ⟨rfl, fun k hk => ?_⟩
  rw [ControlOutput.start_frames, Vector.getElem_replicate]
  rfl

/-- Appending a frame of zeros leaves a batch without torque, full or not (R188). -/
theorem ControlOutput.Cut.append {o : ControlOutput} (h : o.Cut) {f : CanFrame}
    (hf : f.data = Vector.replicate 8 0) : (o.append f).Cut := by
  obtain ⟨htorque, hframes⟩ := h
  by_cases hfree : o.count.val < 8
  · rw [ControlOutput.append_of_lt o f hfree]
    refine ⟨htorque, fun k hk => ?_⟩
    rw [Vector.getElem_set]
    split
    · exact hf
    · exact hframes k hk
  · rw [ControlOutput.append_of_full o f hfree]
    exact ⟨htorque, hframes⟩

/-- A tick's batch of a torque of 0 carries none, in RUN and in every other state (R188). -/
theorem controlOutput_cut (cfg : Config) (q : FsmState) : (controlOutput cfg q 0).Cut := by
  cases q with
  | run => exact ControlOutput.start_cut.append (invCmdFrame_data_of_zero cfg)
  | _ => exact ControlOutput.start_cut

/-! ### Calls under a set latch (R156) -/

/-- Torque is cut: LATCH is set, and the last response reports no torque. -/
structure State.Cut (s : State) : Prop where
  latch    : s.latch = true
  response : s.response.Cut

section
variable {cfg : Config} {s : State} (h : tseLatch cfg s.record s.latch = true)
include h

/-- A COMPUTE_TORQUE that leaves LATCH set cuts torque (R156, R160). -/
theorem State.computeTorque_cut : (s.computeTorque cfg).Cut where
  latch := h
  response := ⟨tseReply_pct_of_latched h, h⟩

/-- A STEP that leaves LATCH set cuts torque (R156, R188, R189). -/
theorem State.controlTick_cut (now : Word) : (s.controlTick cfg now).Cut where
  latch := h
  response := by
    rw [State.controlTick_response, tseReply_pct_of_latched h]
    exact controlOutput_cut cfg s.fsm

end

/-- Torque stays cut over a command that leaves LATCH set when it runs the engine; a command that does not run it
neither writes LATCH nor responds a torque (R29, R159). -/
theorem CommandEffect.keeps_cut {s t : State} {i : Instr} (heff : CommandEffect s i t) (hlatch : s.latch = true)
    (hkeep : runsTse i = true → tseLatch Config.installed s.record s.latch = true) : t.Cut := by
  cases heff with
  | computeTorque => exact State.computeTorque_cut (hkeep rfl)
  | step now => exact State.controlTick_cut (hkeep rfl) now
  | _ => exact ⟨hlatch, trivial⟩

/-! ### Runs (R252) -/

/-- A call of the engine that does not see the clear condition leaves a set latch set (R153). -/
theorem State.tseLatch_of_not_atClear {cfg : Config} {s : State} {p : Ports} {rest : List PortInput}
    (hinputs : s.inputs = .command p :: rest) (hclear : s.atClear cfg = false) (hlatch : s.latch = true)
    (hruns : runsTse (decode p) = true) : tseLatch cfg s.record s.latch = true := by
  rw [hlatch]
  by_contra hcleared
  obtain ⟨hbrake, hzero⟩ := tseLatch_true_eq_false_iff.1 (Bool.eq_false_of_not_eq_true hcleared)
  simp [State.atClear, hinputs, hruns, hbrake, hzero] at hclear

/-- A step that is no reset and no clearing call leaves torque cut (R156, R252). -/
theorem State.Cut.step {s t : State} (h : s.Cut) (hreset : s.atReset = false)
    (hclear : s.atClear Config.installed = false) (hstep : step s = .next t) : t.Cut := by
  obtain ⟨-, rfl⟩ | ⟨rest, hinputs, -⟩ | ⟨p, rest, hinputs, hexec⟩ := step_cases s t hstep
  · exact h
  · simp [State.atReset, hinputs] at hreset
  · have heff := (exec_eq_next_iff _ _ _).1 hexec
    have hkeep := State.tseLatch_of_not_atClear hinputs hclear h.latch
    exact heff.keeps_cut h.latch hkeep

/-- What every unreleased step keeps, an unreleased run keeps. -/
theorem Unreleased.keeps {cfg : Config} {P : State → Prop}
    (hstep : ∀ s u, P s → s.atReset = false → s.atClear cfg = false → step s = .next u → P u) :
    ∀ {n : Nat} {s t : State}, Unreleased cfg n s t → P s → P t
  | 0, _, _, hrun, hs => hrun ▸ hs
  | _ + 1, s, _, ⟨hreset, hclear, u, hnext, hrun⟩, hs =>
    Unreleased.keeps hstep hrun (hstep s u hs hreset hclear hnext)

end Sys2Proof.Machine

namespace Sys2Proof.Proofs

open Sys2Proof.Machine

/-- Settles O35, step by step (`State.Cut.step`, `Unreleased.keeps`). -/
theorem latchPersistsOverRuns : Obligations.LatchPersistsOverRuns := by
  intro n s t hlatch hresponse hrun
  have hcut : t.Cut := hrun.keeps (fun _ _ => State.Cut.step) ⟨hlatch, hresponse⟩
  exact ⟨hcut.latch, hcut.response⟩

/-- Settles O34: the set condition sets LATCH' (`tseLatch_of_set`), whose reply both commands give. -/
theorem settingCallCutsTorque : Obligations.SettingCallCutsTorque := by
  intro cfg s now hbrake ht
  have hset := tseLatch_of_set hbrake ht s.latch
  refine ⟨hset, ?_, hset, ?_, hset⟩
  · rw [State.computeTorque_response, tseReply_of_latched hset]
  · rw [State.controlTick_record, VehicleInputs.writeBack_torque, tseReply_pct_of_latched hset]

end Sys2Proof.Proofs
end

section
/-! PROOF. The scenarios of a conformant configuration (43_torque_safety.md R161) and COMPUTE_TORQUE (R160). -/

namespace Sys2Proof.Machine

section
variable {cfg : Config} {r : VehicleInputs}

/-- Mid-scale sensors of a conformant configuration give a torque of 30 to 70 (R161). -/
theorem computedTorque_of_midScale (h : MidScale cfg) (h1 : r.acc1 = 2048) (h2 : r.acc2 = 2048) :
    30 ≤ computedTorque cfg r ∧ computedTorque cfg r ≤ 70 := by
  obtain ⟨hgate1, hgate2, hlow, hhigh⟩ := h
  rw [computedTorque_of_sensors h1 h2, gatedMean_of_open hgate1 hgate2, deadband_of_mid (by omega) (by omega)]
  exact ⟨hlow, hhigh⟩

/-- Zero sensors of a conformant configuration give no torque (R161). -/
theorem computedTorque_of_zeroScale (h : ZeroScale cfg) (h1 : r.acc1 = 0) (h2 : r.acc2 = 0) :
    computedTorque cfg r = 0 := by
  rw [computedTorque_of_sensors h1 h2]
  obtain hclosed | hclosed | hmean := h
  · rw [gatedMean_of_closed (.inl hclosed), deadband_of_low (by decide)]
  · rw [gatedMean_of_closed (.inr hclosed), deadband_of_low (by decide)]
  · exact deadband_of_low (Nat.lt_of_le_of_lt (gatedMean_le_mean _ _) hmean)

/-- Full-scale sensors of a conformant configuration give full torque (R161). -/
theorem computedTorque_of_fullScale (h : FullScale cfg) (h1 : r.acc1 = 4095) (h2 : r.acc2 = 4095) :
    computedTorque cfg r = 100 := by
  obtain ⟨hgate1, hgate2, hmean⟩ := h
  rw [computedTorque_of_sensors h1 h2, gatedMean_of_open hgate1 hgate2, deadband_of_high hmean]

/-- Full throttle with the brake at 4095 sets LATCH, where the threshold is below it (R160, R161). -/
theorem tseLatch_of_fullScale_braked (h : FullScale cfg) (hthr : cfg.brakeThr.toNat < 4095)
    (h1 : r.acc1 = 4095) (h2 : r.acc2 = 4095) (hbrake : r.brake = 4095) (latch : Bool) :
    tseLatch cfg r latch = true := by
  refine tseLatch_of_set ?_ ?_ latch
  · rw [hbrake]; exact hthr
  · rw [computedTorque_of_fullScale h h1 h2]; decide

end

/-- CFG0 has the full scale of R161 (D40). -/
theorem fullScale_cfg0 : FullScale cfg0 := by
  unfold FullScale
  decide

end Sys2Proof.Machine

namespace Sys2Proof.Proofs

open Sys2Proof.Machine

/-- Settles O36: the computed torque of each scenario, and LATCH' by the brake's side of the threshold. -/
theorem conformantScenarios : Obligations.ConformantScenarios := by
  rintro cfg ⟨hmid, hzero, hfull, hthr⟩
  refine ⟨fun b hb => ?_, ?_, ?_, ?_⟩
  · have hunlatched := tseLatch_false_of_brake_le (cfg := cfg)
      (r := { VehicleInputs.zero with acc1 := 2048, acc2 := 2048, brake := b }) (Nat.le_of_lt hb)
    rw [tseReply_pct_toNat_of_unlatched hunlatched]
    exact ⟨hunlatched, computedTorque_of_midScale hmid rfl rfl⟩
  · exact tseReply_pct_of_computedTorque_zero (computedTorque_of_zeroScale hzero rfl rfl) false
  · refine (tseReply_pct_of_unlatched (tseLatch_false_of_brake_le (Nat.zero_le _))).trans ?_
    rw [computedTorque_of_fullScale hfull rfl rfl]
    rfl
  · exact tseReply_of_latched (tseLatch_of_fullScale_braked hfull hthr rfl rfl rfl false)

/-- Settles O33: a second call finds LATCH as the first left it (`tseLatch_tseLatch`); the example is full throttle
with the brake pressed. -/
theorem computeTorqueUpdatesLatch : Obligations.ComputeTorqueUpdatesLatch := by
  have hcompute (s : State) := (exec_eq_next_iff .computeTorque s _).2 .computeTorque
  refine ⟨fun p hop => ?_, hcompute, fun s t u hfirst hrecord hlatch => ?_, fun s h1 h2 hbrake _ => ?_⟩
  · obtain ⟨-, -, -, -, -, -, -, -, hdecode, -⟩ := decodeByOp p
    exact hdecode hop
  · cases (exec_eq_next_iff _ _ _).1 hfirst with
    | receive _ f hf => cases hf
    | computeTorque =>
      refine ⟨_, hcompute u, ?_, ?_⟩ <;> simp [hrecord, hlatch]
  · have hset := tseLatch_of_fullScale_braked fullScale_cfg0 (by decide) h1 h2 hbrake s.latch
    exact ⟨congrArg Response.torque (tseReply_of_latched hset), hset⟩

end Sys2Proof.Proofs
end

section
/-! PROOF. The control state machine rule by rule (44_control_fsm.md R182 to R190): the guards, the transition, the
R2D origin, the batch of frames, then a tick and a run of ticks. -/

namespace Sys2Proof.Machine

/-- STEP is a control tick of the installed configuration (R180). -/
theorem exec_step (now : Word) (s : State) : exec (.step now) s = .next (s.controlTick Config.installed now) :=
  (exec_eq_next_iff _ _ _).2 (.step now)

/-! ### The guards (R25, R184, R185) -/

/-- The acknowledge is true when its byte is nonzero (R25). -/
theorem prechargeTrue_iff (r : VehicleInputs) : prechargeTrue r = true ↔ r.prechargeAck ≠ 0 :=
  decide_eq_true_iff

/-- The guard of WAIT_START_BRAKE is the button and the brake together (R184). -/
theorem startGuard_iff (cfg : Config) (r : VehicleInputs) :
    startGuard cfg r = true ↔ r.startBtn = true ∧ cfg.brakeThr.toNat < r.brake.toNat := by
  rw [startGuard, Bool.and_eq_true, decide_eq_true_iff]

/-- The guard of R2D_DELAY is 2000 ms of elapsed time (R185). -/
theorem r2dGuard_iff (t0 now : Word) : r2dGuard t0 now = true ↔ 2000 ≤ elapsedMs t0 now :=
  decide_eq_true_iff

/-- The elapsed time is the difference modulo 2^32, for every pair of times (R9, R185). -/
theorem elapsedMs_eq (t0 now : Word) : elapsedMs t0 now = (now.toNat + 2 ^ 32 - t0.toNat) % 2 ^ 32 := by
  have ht0 := t0.isLt
  rw [elapsedMs, BitVec.toNat_sub]
  congr 1
  omega

/-- A host that meets its duty sees the ideal time pass, across the wrap of the 32-bit clock (R181, R185). -/
theorem elapsedMs_of_hostDuty {entry time : Nat} (h : HostDuty entry time) :
    elapsedMs (BitVec.ofNat 32 entry) (BitVec.ofNat 32 time) = time - entry := by
  obtain ⟨hforward, hshort⟩ := h
  rw [elapsedMs_eq, BitVec.toNat_ofNat, BitVec.toNat_ofNat]
  omega

/-! ### The transition and the R2D origin (R182 to R187, R31) -/

section
variable (cfg : Config) (r : VehicleInputs) (t0 now : Word)

theorem fsmNext_boot :
    fsmNext cfg r t0 now .boot = if r.prechargeAck ≠ 0 then .waitStartBrake else .waitPrechargeAck :=
  if_congr (prechargeTrue_iff r) rfl rfl

theorem fsmNext_waitPrechargeAck :
    fsmNext cfg r t0 now .waitPrechargeAck =
      if r.prechargeAck ≠ 0 then .waitStartBrake else .waitPrechargeAck :=
  if_congr (prechargeTrue_iff r) rfl rfl

theorem fsmNext_waitStartBrake :
    fsmNext cfg r t0 now .waitStartBrake =
      if r.startBtn = true ∧ cfg.brakeThr.toNat < r.brake.toNat then .r2dDelay else .waitStartBrake :=
  if_congr (startGuard_iff cfg r) rfl rfl

theorem fsmNext_r2dDelay :
    fsmNext cfg r t0 now .r2dDelay = if 2000 ≤ elapsedMs t0 now then .ready else .r2dDelay :=
  if_congr (r2dGuard_iff t0 now) rfl rfl

theorem fsmNext_ready : fsmNext cfg r t0 now .ready = .run := rfl

theorem fsmNext_run : fsmNext cfg r t0 now .run = .run := rfl

theorem r2dT0Next_waitStartBrake :
    r2dT0Next cfg r t0 now .waitStartBrake =
      if r.startBtn = true ∧ cfg.brakeThr.toNat < r.brake.toNat then now else t0 :=
  if_congr (startGuard_iff cfg r) rfl rfl

/-- In every state but WAIT_START_BRAKE the R2D origin stays (R31). -/
theorem r2dT0Next_of_ne {q : FsmState} (h : q ≠ .waitStartBrake) : r2dT0Next cfg r t0 now q = t0 := by
  cases q with
  | waitStartBrake => exact absurd rfl h
  | _ => rfl

/-- FSM after a tick, one case per state at its start, with the difference of R185 written out (R180). -/
theorem fsmNext_eq_ite (q : FsmState) :
    fsmNext cfg r t0 now q =
      (if q = .boot then
        if r.prechargeAck ≠ 0 then .waitStartBrake else .waitPrechargeAck
      else if q = .waitPrechargeAck then
        if r.prechargeAck ≠ 0 then .waitStartBrake else .waitPrechargeAck
      else if q = .waitStartBrake then
        if r.startBtn = true ∧ cfg.brakeThr.toNat < r.brake.toNat then .r2dDelay else .waitStartBrake
      else if q = .r2dDelay then
        if 2000 ≤ (now.toNat + 2 ^ 32 - t0.toNat) % 2 ^ 32 then .ready else .r2dDelay
      else .run) := by
  cases q with
  | boot => exact fsmNext_boot cfg r t0 now
  | waitPrechargeAck => exact fsmNext_waitPrechargeAck cfg r t0 now
  | waitStartBrake => exact fsmNext_waitStartBrake cfg r t0 now
  | r2dDelay => rw [← elapsedMs_eq]; exact fsmNext_r2dDelay cfg r t0 now
  | ready => exact fsmNext_ready cfg r t0 now
  | run => exact fsmNext_run cfg r t0 now

/-- R2D_T0 after a tick, as one condition on the tick (R31, R184). -/
theorem r2dT0Next_eq_ite (q : FsmState) :
    r2dT0Next cfg r t0 now q =
      (if q = .waitStartBrake ∧ r.startBtn = true ∧ cfg.brakeThr.toNat < r.brake.toNat then now else t0) := by
  by_cases hq : q = .waitStartBrake
  · subst hq
    simp only [r2dT0Next_waitStartBrake, true_and]
  · rw [r2dT0Next_of_ne cfg r t0 now hq, if_neg fun h => hq h.1]

end

/-! ### The batch of frames (R84, R188) -/

/-- The first frame appended is alone in the batch, in slot 0 (R188). -/
theorem ControlOutput.start_append (tq : Byte) (f : CanFrame) :
    (ControlOutput.start tq).append f =
      { count := 1, torque := tq
        frames := #v[f, zeroFrame, zeroFrame, zeroFrame, zeroFrame, zeroFrame, zeroFrame, zeroFrame] } :=
  ControlOutput.append_of_lt _ f (Nat.zero_lt_succ 7)

/-- The slot at the count takes an appended frame, and the others stay (R188). -/
theorem ControlOutput.getElem_append {o : ControlOutput} (f : CanFrame) (hfree : o.count.val < 8) (k : Nat)
    (hk : k < 8) : (o.append f).frames[k] = (if k = o.count.val then f else o.frames[k]) := by
  simp only [ControlOutput.append_of_lt o f hfree, Vector.getElem_set]
  exact if_congr eq_comm rfl rfl

section
variable (cfg : Config) (tq : Byte)

/-- In RUN a tick's batch is the inverter command frame alone (R188). -/
theorem controlOutput_run :
    controlOutput cfg .run tq = (ControlOutput.start tq).append (invCmdFrame cfg tq) := rfl

/-- In every state but RUN a tick's batch is empty (R188). -/
theorem controlOutput_of_ne_run {q : FsmState} (h : q ≠ .run) :
    controlOutput cfg q tq = ControlOutput.start tq := by
  cases q with
  | run => exact absurd rfl h
  | _ => rfl

/-- A tick's batch slot by slot, in RUN and in every other state (R188). -/
theorem controlOutput_eq_ite (q : FsmState) :
    controlOutput cfg q tq =
      (if q = .run then
        { count := 1, torque := tq
          frames := #v[invCmdFrame cfg tq, zeroFrame, zeroFrame, zeroFrame, zeroFrame, zeroFrame, zeroFrame,
            zeroFrame] }
      else { count := 0, frames := Vector.replicate 8 zeroFrame, torque := tq }) := by
  split
  next hrun => rw [hrun, controlOutput_run, ControlOutput.start_append]
  next hne => exact controlOutput_of_ne_run cfg tq hne

/-- The batch of a tick carries its torque, in every state (R180). -/
theorem controlOutput_torque (q : FsmState) : (controlOutput cfg q tq).torque = tq := by
  rw [controlOutput_eq_ite]
  split <;> rfl

end

/-! ### A tick (R182 to R187) -/

section
variable {cfg : Config} {s : State}

/-- BOOT and WAIT_PRECHARGE_ACK have the same transition (R182, R183). -/
theorem State.controlTick_fsm_of_precharging (h : s.fsm = .boot ∨ s.fsm = .waitPrechargeAck) (now : Word) :
    (s.controlTick cfg now).fsm =
      if s.record.prechargeAck ≠ 0 then .waitStartBrake else .waitPrechargeAck := by
  rw [State.controlTick_fsm]
  obtain hboot | hwait := h
  · rw [hboot, fsmNext_boot]
  · rw [hwait, fsmNext_waitPrechargeAck]

/-- The button and the brake in one tick start the delay, whose origin is that tick's time (R184). -/
theorem State.controlTick_starts (h : s.fsm = .waitStartBrake)
    (hguard : s.record.startBtn = true ∧ cfg.brakeThr.toNat < s.record.brake.toNat) (now : Word) :
    (s.controlTick cfg now).fsm = .r2dDelay ∧ (s.controlTick cfg now).r2dT0 = now := by
  rw [State.controlTick_fsm, State.controlTick_r2dT0, h, fsmNext_waitStartBrake, r2dT0Next_waitStartBrake,
    if_pos hguard, if_pos hguard]
  exact ⟨rfl, rfl⟩

/-- Without both, WAIT_START_BRAKE stays, and so does the R2D origin (R184). -/
theorem State.controlTick_waits_for_start (h : s.fsm = .waitStartBrake)
    (hguard : ¬(s.record.startBtn = true ∧ cfg.brakeThr.toNat < s.record.brake.toNat)) (now : Word) :
    (s.controlTick cfg now).fsm = .waitStartBrake ∧ (s.controlTick cfg now).r2dT0 = s.r2dT0 := by
  rw [State.controlTick_fsm, State.controlTick_r2dT0, h, fsmNext_waitStartBrake, r2dT0Next_waitStartBrake,
    if_neg hguard, if_neg hguard]
  exact ⟨rfl, rfl⟩

/-- R2D_DELAY is left for READY on the elapsed time (R185). -/
theorem State.controlTick_fsm_of_r2dDelay (h : s.fsm = .r2dDelay) (now : Word) :
    (s.controlTick cfg now).fsm = if 2000 ≤ elapsedMs s.r2dT0 now then .ready else .r2dDelay := by
  rw [State.controlTick_fsm, h, fsmNext_r2dDelay]

/-- READY lasts one tick (R186). -/
theorem State.controlTick_fsm_of_ready (h : s.fsm = .ready) (now : Word) :
    (s.controlTick cfg now).fsm = .run := by
  rw [State.controlTick_fsm, h, fsmNext_ready]

/-- A tick that does not start in WAIT_START_BRAKE keeps the R2D origin (R31). -/
theorem State.controlTick_r2dT0_of_ne (h : s.fsm ≠ .waitStartBrake) (now : Word) :
    (s.controlTick cfg now).r2dT0 = s.r2dT0 :=
  r2dT0Next_of_ne cfg s.record s.r2dT0 now h

end

/-! ### Waiting for the acknowledge, and staying in RUN -/

/-- The machine waits: it is in WAIT_PRECHARGE_ACK, and the acknowledge is 0 (R183). -/
structure State.Waiting (s : State) : Prop where
  fsm : s.fsm = .waitPrechargeAck
  ack : s.record.prechargeAck = 0

/-- With the acknowledge at 0, a tick from BOOT or WAIT_PRECHARGE_ACK leaves the machine waiting (R182, R183). -/
theorem State.controlTick_waiting {cfg : Config} {s : State} (h : s.fsm = .boot ∨ s.fsm = .waitPrechargeAck)
    (hack : s.record.prechargeAck = 0) (now : Word) : (s.controlTick cfg now).Waiting where
  fsm := by rw [State.controlTick_fsm_of_precharging h, if_neg (not_not_intro hack)]
  ack := hack

/-- A machine that waits does so over any number of ticks (R192). -/
theorem State.Waiting.foldl_controlTick (cfg : Config) (times : List Word) {s : State} (h : s.Waiting) :
    (times.foldl (fun u now => u.controlTick cfg now) s).Waiting := by
  induction times generalizing s with
  | nil => exact h
  | cons now times ih => exact ih (State.controlTick_waiting (.inr h.fsm) h.ack now)

/-- No command leaves RUN: STEP stays in it, and the others do not write FSM (R30, R187). -/
theorem CommandEffect.keeps_run {s t : State} {i : Instr} (heff : CommandEffect s i t) (h : s.fsm = .run) :
    t.fsm = .run := by
  cases heff with
  | step now => exact State.controlTick_fsm_of_run h _ now
  | _ => exact h

end Sys2Proof.Machine

namespace Sys2Proof.Proofs

open Sys2Proof.Machine

/-- Settles O37: FSM, R2D_T0 and the batch as the pseudocode writes them (`fsmNext_eq_ite`, `r2dT0Next_eq_ite`,
`controlOutput_eq_ite`). -/
theorem stepRunsControlTick : Obligations.StepRunsControlTick := by
  refine ⟨rfl, fun p hop => ?_, ?_⟩
  · obtain ⟨-, -, -, -, -, -, -, -, -, hdecode, -⟩ := decodeByOp p
    exact hdecode hop
  · rintro now s _ _ rfl rfl
    rw [← fsmNext_eq_ite, ← r2dT0Next_eq_ite, ← controlOutput_eq_ite]
    exact exec_step now s

/-- Settles O39; a brake at the threshold does not meet the guard. -/
theorem startNeedsButtonAndBrake : Obligations.StartNeedsButtonAndBrake := by
  refine ⟨exec_step, fun cfg now s hfsm => ⟨fun hguard => State.controlTick_starts hfsm hguard now,
    fun hguard => State.controlTick_waits_for_start hfsm hguard now, fun hequal => ?_⟩⟩
  have hguard : ¬(s.record.startBtn = true ∧ cfg.brakeThr.toNat < s.record.brake.toNat) := by
    rw [hequal]
    rintro ⟨-, habove⟩
    exact Nat.lt_irrefl _ habove
  exact (State.controlTick_waits_for_start hfsm hguard now).1

/-- Settles O40: the elapsed time is the difference modulo 2^32 (`elapsedMs_eq`), and under the host's duty the
ideal time that has passed (`elapsedMs_of_hostDuty`). -/
theorem r2dDelayOnHostTime : Obligations.R2dDelayOnHostTime := by
  refine ⟨fun now s hfsm => ⟨_, exec_step now s, ?_⟩, fun entry time s hduty hfsm ht0 => ?_⟩
  · rw [← elapsedMs_eq]
    exact State.controlTick_fsm_of_r2dDelay hfsm now
  · have hnext := State.controlTick_fsm_of_r2dDelay (cfg := Config.installed) hfsm (BitVec.ofNat 32 time)
    rw [ht0, elapsedMs_of_hostDuty hduty] at hnext
    refine ⟨_, exec_step _ s, State.controlTick_r2dT0_of_ne (by rw [hfsm]; decide) _, fun hpassed => ?_,
      fun hearly => ?_⟩
    · rw [hnext, if_pos hpassed]
    · rw [hnext, if_neg (Nat.not_le_of_lt hearly)]

/-- Settles O41: the transition of each state is one guard with two outcomes, or none. -/
theorem oneTransitionPerTick : Obligations.OneTransitionPerTick := by
  intro now s
  refine ⟨_, exec_step now s, ?_⟩
  rw [State.controlTick_fsm]
  cases s.fsm with
  | boot => rw [fsmNext_boot]; split <;> simp
  | waitPrechargeAck => rw [fsmNext_waitPrechargeAck]; split <;> simp
  | waitStartBrake => rw [fsmNext_waitStartBrake]; split <;> simp
  | r2dDelay => rw [fsmNext_r2dDelay]; split <;> simp
  | ready => simp [fsmNext_ready]
  | run => simp [fsmNext_run]

/-- Settles O42: the batch by state (`controlOutput_eq_ite`), its unused slots by the invariant of the batch
(`controlOutput_inv`), the append rule slot by slot (`ControlOutput.getElem_append`). -/
theorem framesOnlyInRun : Obligations.FramesOnlyInRun := by
  refine ⟨fun now s => ?_, fun o f => ⟨fun hfree => ⟨?_, ControlOutput.getElem_append f hfree⟩, fun hfull => ?_⟩⟩
  · have hinv := controlOutput_inv Config.installed s.fsm
      (torqueRange_tseReply_pct Config.installed s.record s.latch)
    refine ⟨_, _, exec_step now s, rfl, controlOutput_torque _ _ _, fun hrun => ?_, fun hne => ?_,
      fun k hk hunused => ?_⟩
    · rw [controlOutput_torque, controlOutput_eq_ite, if_pos hrun]
      exact ⟨rfl, rfl⟩
    · rw [controlOutput_eq_ite, if_neg hne]
    · rw [hinv.unused k hk hunused]
      exact ⟨rfl, rfl, rfl, rfl, fun j hj => Vector.getElem_replicate hj⟩
  · rw [ControlOutput.append_of_lt o f hfree]
  · exact ControlOutput.append_of_full o f (by omega)

/-- Settles O43, tick by tick: BOOT, WAIT_START_BRAKE, R2D_DELAY, READY, RUN. -/
theorem startupReachesRun : Obligations.StartupReachesRun := by
  intro cfg s n0 n1 n2 n3 hboot hack hbutton hbrake hdelay
  have hwait : (s.controlTick cfg n0).fsm = .waitStartBrake := by
    rw [State.controlTick_fsm_of_precharging (.inl hboot), if_pos hack]
  obtain ⟨hr2d, horigin⟩ := State.controlTick_starts hwait ⟨hbutton, hbrake⟩ n1
  have hready : (((s.controlTick cfg n0).controlTick cfg n1).controlTick cfg n2).fsm = .ready := by
    rw [State.controlTick_fsm_of_r2dDelay hr2d, horigin]
    exact if_pos hdelay
  refine ⟨hwait, hr2d, hready, State.controlTick_fsm_of_ready hready n3, ?_⟩
  rw [State.controlTick_r2dT0_of_ne (by rw [hready]; decide), State.controlTick_r2dT0_of_ne (by rw [hr2d]; decide),
    horigin]

/-- Settles O44: the first tick leaves the machine waiting, and it goes on waiting. -/
theorem waitsForPrecharge : Obligations.WaitsForPrecharge := by
  intro times cfg s hfsm hack hsome
  cases times with
  | nil => exact absurd rfl hsome
  | cons now times => exact ((State.controlTick_waiting hfsm hack now).foldl_controlTick cfg times).fsm

/-- Settles O45, by the three things a step can do (`step_cases`): hold, reset, or run a command. -/
theorem runLeftOnlyByReset : Obligations.RunLeftOnlyByReset := by
  intro s t hrun hstep
  obtain ⟨-, rfl⟩ | ⟨rest, hinputs, -⟩ | ⟨p, rest, -, hexec⟩ := step_cases s t hstep
  · exact .inl hrun
  · exact .inr (by rw [State.atReset, hinputs])
  · have heff := (exec_eq_next_iff _ _ _).1 hexec
    exact .inl (heff.keeps_run hrun)

end Sys2Proof.Proofs
end

section
/-! PROOF. The status frame of TLM_BUILD (45_telemetry.md R210; 30_encoding.md R87). -/

namespace Sys2Proof

/-- Op 0xA is TLM_BUILD, whatever stands on the other ports (R70, R72). -/
theorem decode_of_tlmBuild_op {p : Ports} (hop : p.op = 0xA#4) : decode p = .tlmBuild := by
  simp [decode, hop]

namespace Machine

/-- TLM_BUILD answers the status frame of the record and writes nothing else (R210). -/
theorem exec_tlmBuild (s : State) : exec .tlmBuild s = .next (s.respond (.telemetry (telemetryFrame s.record))) :=
  (exec_eq_next_iff _ _ _).2 .tlmBuild

/-- A flag is written as the byte 0 or 1 (R8, R87). -/
theorem flagByte_eq_ite (b : Bool) : flagByte b = if b = true then 1 else 0 := rfl

/-- Bytes 16 to 31 of the status frame are zero for every record, with the invariant or not (R87, R210). -/
theorem telemetryFrame_reserved (r : VehicleInputs) (k : Nat) (hk : k < 32) (hreserved : 16 ≤ k) :
    (telemetryFrame r)[k] = 0 := by
  interval_cases k <;> rfl

end Machine

end Sys2Proof

namespace Sys2Proof.Proofs

open Sys2Proof.Machine

/-- Settles O46: a byte field stands at its byte as it is, a 16-bit field as its low and its high byte
(`toNat_lowByte`, `toNat_highByte`), a flag as 0 or 1; bytes 0 and 13 by the invariant of the response
(`telemetryFrame_inv`). -/
theorem telemetryStatusFrame : Obligations.TelemetryStatusFrame := by
  refine ⟨fun p hop => decode_of_tlmBuild_op hop, fun s => ⟨telemetryFrame s.record, exec_tlmBuild s, rfl, rfl,
    toNat_lowByte s.record.dcBusV, toNat_highByte s.record.dcBusV,
    toNat_lowByte s.record.minCellV, toNat_highByte s.record.minCellV,
    toNat_lowByte s.record.acc1, toNat_highByte s.record.acc1,
    toNat_lowByte s.record.acc2, toNat_highByte s.record.acc2,
    toNat_lowByte s.record.brake, toNat_highByte s.record.brake,
    flagByte_eq_ite s.record.ev23, flagByte_eq_ite s.record.t1189, rfl, flagByte_eq_ite s.record.startBtn,
    telemetryFrame_reserved s.record, fun hinv => ?_⟩⟩
  obtain ⟨-, hinvState, ht1189, -⟩ := telemetryFrame_inv hinv
  exact ⟨hinvState, ht1189⟩

end Sys2Proof.Proofs
end

section
/-! PROOF. Completion (60_exceptions.md R230, R232, R242): every command but the reserved ones has an effect, and a
step with nothing presented has none. -/

namespace Sys2Proof.Machine

/-- A command that delivers a frame is no reserved row. -/
theorem reservedRow_of_receivedFrame {i : Instr} {f : CanFrame} (hf : receivedFrame i = some f) :
    reservedRow i = false := by
  cases i with
  | reserved0 | reservedB | reservedC => cases hf
  | _ => rfl

/-- An op decodes to a reserved row exactly when it is reserved (R70, R88). -/
theorem reservedRow_decode_iff (p : Ports) :
    reservedRow (decode p) = true ↔ p.op = 0x0#4 ∨ 0xB ≤ p.op.toNat := by
  obtain ⟨op, bit, now, item, frame⟩ := p
  cases op using op_cases with
  | dispatch =>
    obtain ⟨-, -, hreceived⟩ := decodeDispatch_spec (frameOfBits frame)
    simp [decode, reservedRow_of_receivedFrame hreceived]
  | _ => simp [decode, reservedRow]

/-- Every command but the reserved rows has an effect on every state (R230). -/
theorem CommandEffect.exists_of_not_reservedRow {i : Instr} (h : reservedRow i = false) (s : State) :
    ∃ t, CommandEffect s i t := by
  cases i with
  | init => exact ⟨_, .init⟩
  | snapshot => exact ⟨_, .snapshot⟩
  | setStart b => exact ⟨_, .setStart b⟩
  | pack f => exact ⟨_, .pack f⟩
  | unpack it => exact ⟨_, .unpack it⟩
  | computeTorque => exact ⟨_, .computeTorque⟩
  | step now => exact ⟨_, .step now⟩
  | tlmBuild => exact ⟨_, .tlmBuild⟩
  | reserved0 | reservedB | reservedC => cases h
  | dispatch | rxitem | rxPrechargeAck | rxDcBusV | rxAcc1 | rxAcc2 | rxBrake | rxMinCellV =>
    exact ⟨_, .receive _ _ rfl⟩

/-- Every command but the reserved rows answers a next state from every state (R230). -/
theorem exec_completes {i : Instr} (h : reservedRow i = false) (s : State) : ∃ t, exec i s = .next t := by
  obtain ⟨t, heff⟩ := CommandEffect.exists_of_not_reservedRow h s
  exact ⟨t, (exec_eq_next_iff i s t).2 heff⟩

end Sys2Proof.Machine

namespace Sys2Proof.Proofs

open Sys2Proof.Machine

/-- Settles O49: there is no fault to answer (log entry 11), every other row has an effect (`exec_completes`), and
ops 0x1 to 0xA decode to no reserved row (`reservedRow_decode_iff`). -/
theorem definedCommandsComplete : Obligations.DefinedCommandsComplete := by
  refine ⟨fun s r => (nomatch r), fun i s hrow => exec_completes hrow s, fun s p rest hinputs hlow hhigh => ?_⟩
  have hrow : reservedRow (decode p) = false := by
    rw [Bool.eq_false_iff, ne_eq, reservedRow_decode_iff]
    rintro (hzero | hreserved)
    · simp [hzero] at hlow
    · omega
  rw [stepRunsDecodedCommand s p rest _ hinputs rfl]
  exact exec_completes hrow _

/-- Settles O3, from what a step does by what is presented (`step_of_inputs`). -/
theorem idleStepHoldsState : Obligations.IdleStepHoldsState := by
  intro s hinputs
  obtain ⟨step_idle, -, -⟩ := step_of_inputs s []
  exact step_idle hinputs

end Sys2Proof.Proofs
end

section
/-! PROOF. The reset input (70_reset_and_hazards.md R250), and what only reset undoes (R252): a return to BOOT, and the
release of the latch without its clear condition. -/

namespace Sys2Proof.Machine

/-- The reset input comes next when it stands at the head of what the host presents. -/
theorem State.atReset_iff (s : State) : s.atReset = true ↔ ∃ rest, s.inputs = .reset :: rest := by
  constructor
  · intro h
    unfold State.atReset at h
    split at h
    next rest hinputs => exact ⟨rest, hinputs⟩
    next => cases h
  · rintro ⟨rest, hinputs⟩
    rw [State.atReset, hinputs]

/-- No transition of a tick enters BOOT, not even from BOOT (R182 to R187). -/
theorem fsmNext_ne_boot (cfg : Config) (r : VehicleInputs) (t0 now : Word) (q : FsmState) :
    fsmNext cfg r t0 now q ≠ .boot := by
  cases q with
  | boot => rw [fsmNext_boot]; split <;> decide
  | waitPrechargeAck => rw [fsmNext_waitPrechargeAck]; split <;> decide
  | waitStartBrake => rw [fsmNext_waitStartBrake]; split <;> decide
  | r2dDelay => rw [fsmNext_r2dDelay]; split <;> decide
  | ready => rw [fsmNext_ready]; decide
  | run => rw [fsmNext_run]; decide

/-- No command leads back to BOOT: STEP enters other states, and the others do not write FSM (R30, R252). -/
theorem CommandEffect.fsm_ne_boot {s t : State} {i : Instr} (heff : CommandEffect s i t) (h : s.fsm ≠ .boot) :
    t.fsm ≠ .boot := by
  cases heff with
  | step now => exact fsmNext_ne_boot _ _ _ _ _
  | _ => exact h

/-- A step that enters BOOT took the reset input (R252). -/
theorem State.atReset_of_step_to_boot {s t : State} (hstep : step s = .next t) (hfrom : s.fsm ≠ .boot)
    (hto : t.fsm = .boot) : s.atReset = true := by
  obtain ⟨-, rfl⟩ | ⟨rest, hinputs, -⟩ | ⟨p, rest, -, hexec⟩ := step_cases s t hstep
  · exact absurd hto hfrom
  · exact s.atReset_iff.2 ⟨rest, hinputs⟩
  · have heff := (exec_eq_next_iff _ _ _).1 hexec
    exact absurd hto (heff.fsm_ne_boot hfrom)

/-- A step that clears LATCH took the reset input, or a call that saw the clear condition (R153, R252). -/
theorem State.released_of_step_clears_latch {s t : State} (hstep : step s = .next t) (hlatch : s.latch = true)
    (hcleared : t.latch = false) : s.atReset = true ∨ s.atClear Config.installed = true := by
  obtain ⟨-, rfl⟩ | ⟨rest, hinputs, -⟩ | ⟨p, rest, hinputs, hexec⟩ := step_cases s t hstep
  · exact absurd hcleared (ne_false_of_eq_true hlatch)
  · exact .inl (s.atReset_iff.2 ⟨rest, hinputs⟩)
  · refine .inr (Bool.eq_true_of_not_eq_false fun hclear => ?_)
    have heff := (exec_eq_next_iff _ _ _).1 hexec
    have hkeep := State.tseLatch_of_not_atClear hinputs hclear hlatch
    exact absurd hcleared (ne_false_of_eq_true (heff.keeps_cut hlatch hkeep).latch)

end Sys2Proof.Machine

namespace Sys2Proof.Proofs

open Sys2Proof.Machine

/-- Settles O2, from what a step does by what is presented (`step_of_inputs`): it is `State.hardReset`. -/
theorem resetInputRestoresReset : Obligations.ResetInputRestoresReset := by
  intro s rest hinputs
  obtain ⟨-, step_reset, -⟩ := step_of_inputs s rest
  exact ⟨_, step_reset hinputs, rfl, rfl, rfl, rfl, rfl⟩

/-- Settles O52: INIT by its effect (O14), reset by O2, then a step into BOOT (`State.atReset_of_step_to_boot`) and a
step that clears LATCH (`State.released_of_step_clears_latch`). -/
theorem onlyResetOrClearReleases : Obligations.OnlyResetOrClearReleases := by
  refine ⟨fun s => ?_, fun s hreset => ?_, fun s t => State.atReset_of_step_to_boot,
    fun s t => State.released_of_step_clears_latch⟩
  · obtain ⟨-, hinit, -⟩ := initZeroesRecord
    exact ⟨_, hinit s, rfl, rfl, rfl, rfl⟩
  · obtain ⟨rest, hinputs⟩ := s.atReset_iff.1 hreset
    obtain ⟨t, hstep, hrecord, hlatch, hfsm, hr2dT0, -⟩ := resetInputRestoresReset s rest hinputs
    exact ⟨t, hstep, hrecord, hlatch, hfsm, hr2dT0⟩

end Sys2Proof.Proofs
end
